-- ==== Sys2Proof/Word.lean ====
section
/-! DEFINITION. Word.lean: the two widths the block computes with (`00_scope.md` rule R11) and exact
durations in milliseconds (`92_eei_decisions.md` D14, `44_transmit.md` rule R215). -/

namespace Sys2Proof

/-- A byte: 8 bits, an unsigned number 0 to 255 (rule R11). -/
abbrev Byte := BitVec 8

/-- Half a byte: 4 bits, 0 to 15 (rule R11). -/
abbrev Nibble := BitVec 4

/-- A duration in milliseconds as an exact fraction `num / den`: the settle time is "a positive rational"
(D14) and the estimate is "over the rationals" (rule R215). A fraction with `den = 0` is no positive duration. -/
structure Duration where
  num : Int
  den : Nat := 1
deriving DecidableEq, Repr, Inhabited

end Sys2Proof
end

