-- ==== Sys2Proof/Machine/Types.lean ====
section
/-! DEFINITION. Machine/Types.lean: the named sets of the spec (receiver states, discard causes, status codes,
completion strategies), the records that travel (received messages, host commands, the in-progress reception),
and the answers the environment can give. Everything here is plain data. -/

namespace Sys2Proof

/-! ## The receiver's states (rule R22) -/

/-- The nine values of `rx_state`, "the block's program counter" (rule R22). -/
inductive RxState where
  | idle | sohReceived | destAddressReceived | srcAddressReceived | transactionIdReceived
  | messageLenReceived | stxReceived | etxReceived | crcOk
deriving DecidableEq, Repr, Inhabited

/-- The state numbers of rule R22; only the trace port shows them. -/
def RxState.number : RxState → Nat
  | .idle => 0
  | .sohReceived => 1
  | .destAddressReceived => 2
  | .srcAddressReceived => 3
  | .transactionIdReceived => 4
  | .messageLenReceived => 5
  | .stxReceived => 6
  | .etxReceived => 7
  | .crcOk => 8

/-- The in-progress reception `rx` (rule R24), present exactly when `rx_state` is not IDLE. `half` keeps the
pending high nibble in bits 7:4. `count` saturates at 256 (rule R172). -/
structure Reception where
  start : Nat
  dst : Byte
  src : Byte
  tid : Byte
  len : Byte
  crc : Byte
  half : Byte
  first : Bool
  count : Nat
  payload : List Byte
deriving DecidableEq, Repr, Inhabited

/-- A received message (rule R32): the record READ returns and IS_BROADCAST and REPLY take. The back-reference
to the engine is the state the operation runs on (rule R256). -/
structure Message where
  src : Byte
  dst : Byte
  tid : Byte
  len : Byte
  payload : List Byte
deriving DecidableEq, Repr, Inhabited

/-- An outgoing frame: "an immutable, fully wire-encoded byte sequence" (rule R33). -/
abbrev Frame := List Byte

/-! ## Codes (rules R271, R281) -/

/-- Why a reception was discarded (rule R281). -/
inductive DiscardCause where
  | addrMismatch | badLength | badStx | badData | lengthMismatch | badChecksum | badEot | timeout | rxOverflow
deriving DecidableEq, Repr

/-- The cause numbers of rule R281. -/
def DiscardCause.code : DiscardCause → Nat
  | .addrMismatch => 1
  | .badLength => 2
  | .badStx => 3
  | .badData => 4
  | .lengthMismatch => 5
  | .badChecksum => 6
  | .badEot => 7
  | .timeout => 8
  | .rxOverflow => 9

/-- Status codes returned to the host (rule R271). -/
inductive Status where
  | ok | eAddr | eSettle | eLen | eEmpty | eIo | eQueueFull | eBroadcastReply | eBadOp
deriving DecidableEq, Repr

/-- The status numbers of rule R271. -/
def Status.code : Status → Nat
  | .ok => 0
  | .eAddr => 1
  | .eSettle => 2
  | .eLen => 3
  | .eEmpty => 4
  | .eIo => 5
  | .eQueueFull => 6
  | .eBroadcastReply => 7
  | .eBadOp => 8

/-- What a TICK reports of its transmit step (rules R40, R200, R271): `nothing` is the spec's NONE. -/
inductive TxResult where
  | nothing | sent | failed
deriving DecidableEq, Repr

/-- The `tx_result` numbers of rule R271. -/
def TxResult.code : TxResult → Nat
  | .nothing => 0
  | .sent => 1
  | .failed => 2

/-- `E_IO` is "carried as `tx_result = FAILED`" (rule R271). -/
def TxResult.status : TxResult → Status
  | .failed => .eIo
  | _ => .ok

/-- How the end of a transmission is learned (rules R10, R46, R207 to R209). -/
inductive Completion where
  | exact | flushEstimate | estimate
deriving DecidableEq, Repr, Inhabited

/-- The strategy a channel's declared capabilities select (rule R209, `90_conflicts.md` C3). -/
def Completion.ofCapabilities (query flush : Bool) : Completion :=
  if query then .exact else if flush then .flushEstimate else .estimate

/-- The hidden phase register (rules R37, R203, decision D6): what is left to do of the TICK under way, with the
local variables `ok` and `r` of the pseudocode. `idle` is between host operations. -/
inductive Phase where
  | idle
  | drain
  | assertDe
  | settle1
  | write
  | complete
  | deassert (ok : Bool)
  | settle2 (ok : Bool)
  | commit
  | fail
  | timeout (r : TxResult)
deriving DecidableEq, Repr, Inhabited

/-! ## The host command port (rule R103) -/

/-- One operation on the command port: the 4-bit code of rule R103 and one lane per operand the table names.
An operation reads its own lanes only; the defaults are rule R105's (`tid = 0`) and D30's (`override = false`). -/
structure Command where
  code : BitVec 4
  addr : Byte := 0
  tid : Byte := 0
  payload : List Byte := []
  settle : Duration := { num := 0 }
  baud : Int := 0
  completion : Completion := .exact
  message : Message := { src := 0, dst := 0, tid := 0, len := 0, payload := [] }
  override : Bool := false
deriving DecidableEq, Repr

/-! ## What the block answers and emits (rule R16) -/

/-- Answers of host operations and pure functions (rule R16 a). -/
inductive Result where
  | status (e : Status)
  | tick (r : TxResult)
  | count (n : Nat)
  | message (m : Message)
  | address (a : Byte)
  | flag (b : Bool)
  | byte (b : Byte)
  | bytes (l : List Byte)
deriving DecidableEq, Repr

/-- The status of an answer (rule R271): an answer that carries a value is `OK`, a TICK's is its `tx_result`'s. -/
def Result.statusOf : Result → Status
  | .status e => e
  | .tick r => r.status
  | .count _ => .ok
  | .message _ => .ok
  | .address _ => .ok
  | .flag _ => .ok
  | .byte _ => .ok
  | .bytes _ => .ok

/-- Trace events (rule R298): states and causes by number. -/
inductive TraceEvent where
  | discard (cause : Nat) (state : Nat)
  | transition (old new : Nat)
  | tx (r : TxResult)
deriving DecidableEq, Repr

/-- Whether the trace port exists, and whether it emits the optional events as well (rule R298, D31). -/
inductive TracePort where
  | absent | discardsOnly | full
deriving DecidableEq, Repr

/-- What leaves the block, in order (rule R16 b, c, d), with the waits and channel calls between (rule R203). -/
inductive Output where
  | drive (de : Bool)
  | wait (d : Duration)
  | write (f : Frame)
  | askDone
  | flush
  | trace (e : TraceEvent)
deriving DecidableEq, Repr

/-! ## What the environment answers (rules R45, R290 to R293) -/

/-- One answer of the channel's receive side: a byte; `noByte`, a positive count but `ChanRead()` answers none
(D24); `silence`, the count reads zero and what follows arrives later; `failure`, a failing count or read (I8). -/
inductive RxItem where
  | byte (b : Byte)
  | noByte
  | silence
  | failure
deriving DecidableEq, Repr

/-- The channel's answer to a write; a failed write still put the first `sent` bytes on the wire (I10). -/
inductive WriteAnswer where
  | ok
  | fail (sent : Nat)
deriving DecidableEq, Repr, Inhabited

/-- The channel's answer to one transmission-complete query (rule R207): true, false or fail. -/
inductive DoneAnswer where
  | done | notYet | fail
deriving DecidableEq, Repr, Inhabited

/-- The channel's answer to a flush (rule R208). -/
inductive FlushAnswer where
  | ok | fail
deriving DecidableEq, Repr, Inhabited

end Sys2Proof
end

