-- ==== Sys2Proof/Config.lean ====
section
/-! DEFINITION. Config.lean: the implementation parameters (rule R10) with the document's values as defaults
(decision D26), and the free values: what the environment answers when no answer is scripted, and the contents of
reception fields that nothing has written. A free value is opaque: no proof can see what it is. -/

namespace Sys2Proof

/-- The parameters of rule R10. `addr`, `settle`, `baud` and `completion` are CONSTRUCT's arguments; no rule
changes any of them afterwards. A depth `none` is the normative unbounded FIFO (rule R62, D13). The defaults of
`addr`, `settle`, `baud`, `completion` and `trace` are DESIGN CHOICE (log entry 2): the spec gives none. That `baud` is a
whole number of bits per second is DESIGN CHOICE (log entry 36): the spec gives its unit and sign, and no numeric type. -/
structure Params where
  addr : Byte := 0
  settle : Duration := { num := 1 }
  baud : Int := 9600
  completion : Completion := .exact
  packetTimeoutMs : Nat := 500
  lineReadyMs : Nat := 10
  bitsPerByte : Nat := 10
  marginFlush : Duration := { num := 11, den := 10 }
  marginNoFlush : Duration := { num := 12, den := 10 }
  txqDepth : Option Nat := none
  rxqDepth : Option Nat := none
  trace : TracePort := .full
deriving DecidableEq, Repr

/-- `LBA_RESET`: the value of `last_bus_activity` after a CONSTRUCT that read the clock at `t` (rule R31, D9). -/
def Config.lbaReset (t : Nat) : Nat := t

/-- How many milliseconds pass at the `n`-th primitive beyond what it asks for (rules R292, R293, I11). -/
opaque Config.freeAdvance : Nat → Nat

/-- The outcome of an unscripted write (rule R206, I10). -/
opaque Config.freeWrite : Nat → WriteAnswer

/-- The answer to an unscripted transmission-complete query (rule R207). -/
opaque Config.freeDone : Nat → DoneAnswer

/-- The outcome of an unscripted flush (rule R208). -/
opaque Config.freeFlush : Nat → FlushAnswer

/-- What a reception field holds before a rule writes it (rule R25, D23: "hold no value"): the first argument
tells receptions apart, the second the fields. -/
opaque Config.unwritten : Nat → Nat → Byte

end Sys2Proof
end

