-- ==== Sys2Proof/Machine/Codec.lean ====
section
/-! DEFINITION. Machine/Codec.lean: the pure functions of the block: control bytes (rule R92), address predicates
(`40_address_rules.md`), the nibble-complement codec (`41_frame_codec.md`), the checksum (`42_checksum.md`) and the
duration estimate (`44_transmit.md` rule R215). -/

namespace Sys2Proof

/-! ## Control bytes (rule R92, decision D1) and fixed addresses (rules R122, R123) -/

def NUL : Byte := 0x00#8
def SOH : Byte := 0x01#8
def STX : Byte := 0x02#8
def ETX : Byte := 0x03#8
def EOT : Byte := 0x04#8
def LF : Byte := 0x0A#8

/-- The broadcast address (rule R122). -/
def BROADCAST : Byte := 0xFF#8

/-- The master address (rule R123). -/
def MASTER : Byte := 0x00#8

/-! ## Address predicates -/

/-- Rule R120, over the integers: out-of-range operands answer false. -/
def isValidNodeAddr (a : Int) : Bool := decide (0 ≤ a) && decide (a ≤ 254)

/-- Rule R121. -/
def isValidSlaveAddr (a : Int) : Bool := isValidNodeAddr a && decide (a ≠ 0)

/-- `MAX_PAYLOAD` (rule R10). -/
def MAX_PAYLOAD : Nat := 255

/-- The payload lengths ENQUEUE accepts (rules R240, R241). -/
def payloadLengthOk (payload : List Byte) : Bool :=
  decide (1 ≤ payload.length) && decide (payload.length ≤ MAX_PAYLOAD)

/-! ## Nibbles and encoded bytes -/

/-- `{a, b}` of rule R11: `a` in bits 7:4, `b` in bits 3:0. -/
def joinNibbles (a b : Nibble) : Byte := a ++ b

/-- `p[7:4]`. -/
def highNibble (p : Byte) : Nibble := p.extractLsb' 4 4

/-- `p[3:0]`. -/
def lowNibble (p : Byte) : Nibble := p.extractLsb' 0 4

/-- Rule R130: `(H << 4) | (~H & 0xF)`. -/
def encHigh (p : Byte) : Byte := joinNibbles (highNibble p) (~~~(highNibble p))

/-- Rule R131: `((~L & 0xF) << 4) | L`. -/
def encLow (p : Byte) : Byte := joinNibbles (~~~(lowNibble p)) (lowNibble p)

/-- The two nibbles exchanged (rule R132). -/
def swapNibbles (b : Byte) : Byte := (b <<< 4) ||| (b >>> 4)

/-- Rule R132: swapping the nibbles and complementing gives the byte back. -/
def validByte (b : Byte) : Bool := ~~~(swapNibbles b) == b

/-- Rule R133: `(b1 & 0xF0) | (b2 & 0x0F)`. -/
def decodePair (b1 b2 : Byte) : Byte := (b1 &&& 0xF0#8) ||| (b2 &&& 0x0F#8)

/-- `enc(p) = [enc_high(p), enc_low(p)]`, the high form first (rules R64, R94). -/
def encByte (p : Byte) : List Byte := [encHigh p, encLow p]

/-! ## Checksum -/

/-- Rule R151: the accumulator's start value. -/
def checksumInit (dst src len : Byte) : Byte := dst ^^^ src ^^^ len

/-- Rule R153: one decoded byte folded in. -/
def checksumFold (crc d : Byte) : Byte := crc ^^^ d

/-- Rule R150: destination, source, declared length and every payload byte; the transaction id is not in it. -/
def checksum (dst src len : Byte) (payload : List Byte) : Byte :=
  payload.foldl checksumFold (checksumInit dst src len)

/-! ## Frames -/

/-- A payload's length as the LEN byte. -/
def lengthByte (payload : List Byte) : Byte := BitVec.ofNat 8 payload.length

/-- The encoded body `enc(P[0]) enc(P[1]) …` (rule R90). -/
def encodeBody (payload : List Byte) : List Byte := payload.flatMap encByte

/-- SOH to EOT: `CORE(dst, src, tid, P)` of rule R104. -/
def coreFrame (dst src tid : Byte) (payload : List Byte) : List Byte :=
  [SOH, dst, src, tid, lengthByte payload, STX] ++ encodeBody payload
    ++ [ETX, checksum dst src (lengthByte payload) payload, EOT]

/-- Rule R134: the 14 + 2n bytes of a frame, fillers included. -/
def frameBytes (dst src tid : Byte) (payload : List Byte) : Frame :=
  [LF, LF, LF] ++ coreFrame dst src tid payload ++ [LF, LF]

/-! ## Byte classes by value alone (rule R99) -/

/-- The eight classes of rule R99. -/
inductive ByteClass where
  | nul | soh | stx | etx | eot | lf | enc | other
deriving DecidableEq, Repr

/-- Rule R99: every byte falls into exactly one class. -/
def byteClass (b : Byte) : ByteClass :=
  if b = NUL then .nul
  else if b = SOH then .soh
  else if b = STX then .stx
  else if b = ETX then .etx
  else if b = EOT then .eot
  else if b = LF then .lf
  else if validByte b then .enc
  else .other

/-! ## Durations -/

/-- Strictly positive (rule R231). -/
def Duration.positive (d : Duration) : Bool := decide (0 < d.num) && decide (0 < d.den)

/-- `floor(d)` in whole milliseconds (rule R293). -/
def Duration.floorMs (d : Duration) : Nat := (d.num / (d.den : Int)).toNat

/-- The product of two exact fractions. -/
def Duration.times (d e : Duration) : Duration := { num := d.num * e.num, den := d.den * e.den }

/-- Rule R215: `(n * BITS_PER_BYTE / BAUD) * 1000` milliseconds for an `n`-byte frame, `BAUD > 0`. -/
def estimateMs (p : Params) (n : Nat) : Duration :=
  { num := ((n * p.bitsPerByte * 1000 : Nat) : Int), den := p.baud.toNat }

end Sys2Proof
end

