-- ==== Sys2Proof/Syntax.lean ====
section
/-! DEFINITION. Syntax.lean: one constructor per row of `opcode_table.json` (rule R106), with the operands the row
names. The groups follow the table's `format` column. -/

namespace Sys2Proof

/-- The 60 units of work of rule R8. -/
inductive Instr where
  -- WIRE: a byte class in one receiver state (rule R100)
  | idleNul
  | idleSoh
  | idleOther (b : Byte)
  | sohDstAccept (dst : Byte)
  | sohDstReject (dst : Byte)
  | destSrc (src : Byte)
  | srcTid (tid : Byte)
  | tidLenOk (len : Byte)
  | tidLenZero
  | lenStx
  | lenOther (b : Byte)
  | stxEncHigh (h c : Nibble)
  | stxEncLow (c l : Nibble)
  | stxEtx
  | stxOther (b : Byte)
  | etxCrcMatch (crc : Byte)
  | etxCrcMismatch (crc : Byte)
  | crcOkEot
  | crcOkOther (b : Byte)
  -- EVENT: the packet timeout (rule R185)
  | rxTimeout
  -- SYMBOL: control byte values and encoded-byte shapes (rules R92, R95, R130, R131)
  | symNul
  | symSoh
  | symStx
  | symEtx
  | symEot
  | symLf
  | symEnc (h c : Nibble)
  | symEncHigh (p : Byte)
  | symEncLow (p : Byte)
  -- HOSTOP: host operations by 4-bit code (rule R103)
  | construct (addr : Byte) (settle : Duration) (baud : Int) (completion : Completion)
  | tick
  | enqueue (dest : Byte) (payload : List Byte) (tid : Byte)
  | pending
  | available
  | read
  | getAddr
  | setAddr (a : Byte)
  | isBroadcast (m : Message)
  | reply (m : Message) (payload : List Byte) (override : Bool)
  | unassignedAB (x : BitVec 1)
  | unassignedCF (x : BitVec 2)
  -- PHASE: steps of a send attempt (rule R203)
  | txGate
  | txAssert
  | txSettle1
  | txWrite
  | txCompleteExact
  | txCompleteFlushEstimate
  | txCompleteEstimate
  | txDeassert
  | txSettle2
  | txCommit
  | txFail
  -- FUNCTION: pure functions (rules R120, R121, R132 to R134, R151, R153, R154)
  | isValidNodeAddress (a : Int)
  | isValidSlaveAddress (a : Int)
  | valid (b : Byte)
  | decPair (b1 b2 : Byte)
  | encodeFrame (dst src tid : Byte) (payload : List Byte)
  | crcInit (b : Byte)
  | crcFold (d : Byte)
  | crcCheck (b : Byte)
deriving DecidableEq, Repr

end Sys2Proof
end

