-- ==== Sys2Proof/WellFormed.lean ====
section
/-! DEFINITION. WellFormed.lean: the constraints the table's rows put on their own operands (the `note` column, rule
R106): the catch-all rows exclude the values of the specific rows, an encoded byte's nibbles are complements, a
length is not zero, and a pure function's operands are in the domain its rule names. -/

namespace Sys2Proof

/-- The operands are ones the row can have. Rows whose operands are free (a raw byte, a host operation's arguments,
which the operation itself checks) are well-formed for every value. -/
def Instr.wellFormed : Instr → Bool
  | .idleNul => true
  | .idleSoh => true
  | .idleOther b => b != NUL && b != SOH
  | .sohDstAccept _ => true
  | .sohDstReject dst => dst != BROADCAST
  | .destSrc _ => true
  | .srcTid _ => true
  | .tidLenOk len => len != 0#8
  | .tidLenZero => true
  | .lenStx => true
  | .lenOther b => b != STX
  | .stxEncHigh h c => c == ~~~h
  | .stxEncLow c l => c == ~~~l
  | .stxEtx => true
  | .stxOther b => !validByte b && b != ETX
  | .etxCrcMatch _ => true
  | .etxCrcMismatch _ => true
  | .crcOkEot => true
  | .crcOkOther b => b != EOT
  | .rxTimeout => true
  | .symNul => true
  | .symSoh => true
  | .symStx => true
  | .symEtx => true
  | .symEot => true
  | .symLf => true
  | .symEnc h c => c == ~~~h
  | .symEncHigh _ => true
  | .symEncLow _ => true
  | .construct _ _ _ _ => true
  | .tick => true
  | .enqueue _ _ _ => true
  | .pending => true
  | .available => true
  | .read => true
  | .getAddr => true
  | .setAddr _ => true
  | .isBroadcast _ => true
  | .reply _ _ _ => true
  | .unassignedAB _ => true
  | .unassignedCF _ => true
  | .txGate => true
  | .txAssert => true
  | .txSettle1 => true
  | .txWrite => true
  | .txCompleteExact => true
  | .txCompleteFlushEstimate => true
  | .txCompleteEstimate => true
  | .txDeassert => true
  | .txSettle2 => true
  | .txCommit => true
  | .txFail => true
  | .isValidNodeAddress _ => true
  | .isValidSlaveAddress _ => true
  | .valid _ => true
  | .decPair b1 b2 => validByte b1 && validByte b2
  | .encodeFrame _ _ _ payload => payloadLengthOk payload
  | .crcInit b => b != 0#8
  | .crcFold _ => true
  | .crcCheck _ => true

end Sys2Proof
end

