-- ==== Sys2Proof/Decode.lean ====
section
/-! DEFINITION. Decode.lean: which unit of work a word stands for, given where the machine takes it from, and the
encoder. The meaning of a byte depends on `rx_state`, "the block's mode for decoding" (rule R100); a 4-bit code
comes from the command port (rule R103); a phase row has no bits, the phase register selects it (rule R106). -/

namespace Sys2Proof

/-- A word as the block takes it: a command from the port, a wire byte, or the empty word of a row whose
`encoding` is the empty string (rule R106). -/
inductive EncodedWord where
  | command (c : Command)
  | byte (b : Byte)
  | empty
deriving DecidableEq, Repr

/-- What the receiver consults beside the byte itself (rule R100): the state register, the node's address (rule
R164), the first-nibble flag (rules R170, R171) and the checksum accumulator (rule R176). -/
structure WireContext where
  rxState : RxState
  ownAddr : Byte
  first : Bool
  crc : Byte
deriving DecidableEq, Repr

/-- Where the word comes from: the decoding mode. `symbol` classifies a byte by its value alone (rule R99). -/
inductive Context where
  | port
  | wire (k : WireContext)
  | symbol
  | sequencer (p : Phase) (mode : Completion)
deriving DecidableEq, Repr

/-- Why a word is no unit of work in its context. -/
inductive DecodeReject where
  /-- the sequencer has nothing to do between host operations -/
  | nothingToDo
  /-- the word is not of the kind this context takes -/
  | wrongKind
  /-- the byte is of class OTHER, which is no symbol (rules R99, R101) -/
  | noSymbol
deriving DecidableEq, Repr

/-- A decoder's answer. -/
inductive Decoded where
  | instr (i : Instr)
  | reject (r : DecodeReject)
deriving DecidableEq, Repr

/-! ## Decoding -/

/-- Rule R103: the 4-bit operation code selects the operation, the lanes give its operands. Codes 0xA to 0xF are
the table's two unassigned rows. -/
def decodeCommand (c : Command) : Instr :=
  match c.code.toNat with
  | 0x0 => .construct c.addr c.settle c.baud c.completion
  | 0x1 => .tick
  | 0x2 => .enqueue c.addr c.payload c.tid
  | 0x3 => .pending
  | 0x4 => .available
  | 0x5 => .read
  | 0x6 => .getAddr
  | 0x7 => .setAddr c.addr
  | 0x8 => .isBroadcast c.message
  | 0x9 => .reply c.message c.payload c.override
  | 0xA => .unassignedAB 0#1
  | 0xB => .unassignedAB 1#1
  | 0xC => .unassignedCF 0#2
  | 0xD => .unassignedCF 1#2
  | 0xE => .unassignedCF 2#2
  | _ => .unassignedCF 3#2

/-- Rule R100: the row that handles byte `b` in the receiver's present state. -/
def decodeWire (k : WireContext) (b : Byte) : Instr :=
  match k.rxState with
  | .idle => if b = NUL then .idleNul else if b = SOH then .idleSoh else .idleOther b
  | .sohReceived => if b = k.ownAddr ∨ b = BROADCAST then .sohDstAccept b else .sohDstReject b
  | .destAddressReceived => .destSrc b
  | .srcAddressReceived => .srcTid b
  | .transactionIdReceived => if b = 0#8 then .tidLenZero else .tidLenOk b
  | .messageLenReceived => if b = STX then .lenStx else .lenOther b
  | .stxReceived =>
    if validByte b then
      if k.first then .stxEncHigh (highNibble b) (lowNibble b) else .stxEncLow (highNibble b) (lowNibble b)
    else if b = ETX then .stxEtx else .stxOther b
  | .etxReceived => if b = k.crc then .etxCrcMatch b else .etxCrcMismatch b
  | .crcOk => if b = EOT then .crcOkEot else .crcOkOther b

/-- Rule R99: the symbol of a byte by its value alone. -/
def decodeSymbol (b : Byte) : Decoded :=
  match byteClass b with
  | .nul => .instr .symNul
  | .soh => .instr .symSoh
  | .stx => .instr .symStx
  | .etx => .instr .symEtx
  | .eot => .instr .symEot
  | .lf => .instr .symLf
  | .enc => .instr (.symEnc (highNibble b) (lowNibble b))
  | .other => .reject .noSymbol

/-- Rules R203, R235: the row a phase runs; the completion strategy picks the COMPLETE row (rule R209). In the
drain, with no byte to take, the transmit step's gate is next. -/
def decodePhase (p : Phase) (mode : Completion) : Decoded :=
  match p with
  | .idle => .reject .nothingToDo
  | .drain => .instr .txGate
  | .assertDe => .instr .txAssert
  | .settle1 => .instr .txSettle1
  | .write => .instr .txWrite
  | .complete =>
    match mode with
    | .exact => .instr .txCompleteExact
    | .flushEstimate => .instr .txCompleteFlushEstimate
    | .estimate => .instr .txCompleteEstimate
  | .deassert _ => .instr .txDeassert
  | .settle2 _ => .instr .txSettle2
  | .commit => .instr .txCommit
  | .fail => .instr .txFail
  | .timeout _ => .instr .rxTimeout

/-- The decoder: total on every word in every context. -/
def decode (x : Context) (w : EncodedWord) : Decoded :=
  match x, w with
  | .port, .command c => .instr (decodeCommand c)
  | .wire k, .byte b => .instr (decodeWire k b)
  | .symbol, .byte b => decodeSymbol b
  | .sequencer p mode, .empty => decodePhase p mode
  | .port, .byte _ => .reject .wrongKind
  | .port, .empty => .reject .wrongKind
  | .wire _, .command _ => .reject .wrongKind
  | .wire _, .empty => .reject .wrongKind
  | .symbol, .command _ => .reject .wrongKind
  | .symbol, .empty => .reject .wrongKind
  | .sequencer _ _, .command _ => .reject .wrongKind
  | .sequencer _ _, .byte _ => .reject .wrongKind

/-! ## Encoding -/

/-- The word of each row, from the table's match values and bit patterns (rules R92, R94, R100, R103). A phase, the
timeout event and a pure function have no bits. -/
def encode : Instr → EncodedWord
  | .idleNul => .byte 0x00#8
  | .idleSoh => .byte 0x01#8
  | .idleOther b => .byte b
  | .sohDstAccept dst => .byte dst
  | .sohDstReject dst => .byte dst
  | .destSrc src => .byte src
  | .srcTid tid => .byte tid
  | .tidLenOk len => .byte len
  | .tidLenZero => .byte 0x00#8
  | .lenStx => .byte 0x02#8
  | .lenOther b => .byte b
  | .stxEncHigh h c => .byte (joinNibbles h c)
  | .stxEncLow c l => .byte (joinNibbles c l)
  | .stxEtx => .byte 0x03#8
  | .stxOther b => .byte b
  | .etxCrcMatch crc => .byte crc
  | .etxCrcMismatch crc => .byte crc
  | .crcOkEot => .byte 0x04#8
  | .crcOkOther b => .byte b
  | .rxTimeout => .empty
  | .symNul => .byte 0x00#8
  | .symSoh => .byte 0x01#8
  | .symStx => .byte 0x02#8
  | .symEtx => .byte 0x03#8
  | .symEot => .byte 0x04#8
  | .symLf => .byte 0x0A#8
  | .symEnc h c => .byte (joinNibbles h c)
  | .symEncHigh p => .byte (encHigh p)
  | .symEncLow p => .byte (encLow p)
  | .construct addr settle baud completion =>
    .command { code := 0x0#4, addr := addr, settle := settle, baud := baud, completion := completion }
  | .tick => .command { code := 0x1#4 }
  | .enqueue dest payload tid => .command { code := 0x2#4, addr := dest, payload := payload, tid := tid }
  | .pending => .command { code := 0x3#4 }
  | .available => .command { code := 0x4#4 }
  | .read => .command { code := 0x5#4 }
  | .getAddr => .command { code := 0x6#4 }
  | .setAddr a => .command { code := 0x7#4, addr := a }
  | .isBroadcast m => .command { code := 0x8#4, message := m }
  | .reply m payload override => .command { code := 0x9#4, message := m, payload := payload, override := override }
  | .unassignedAB x => .command { code := 0b101#3 ++ x }
  | .unassignedCF x => .command { code := 0b11#2 ++ x }
  | .txGate => .empty
  | .txAssert => .empty
  | .txSettle1 => .empty
  | .txWrite => .empty
  | .txCompleteExact => .empty
  | .txCompleteFlushEstimate => .empty
  | .txCompleteEstimate => .empty
  | .txDeassert => .empty
  | .txSettle2 => .empty
  | .txCommit => .empty
  | .txFail => .empty
  | .isValidNodeAddress _ => .empty
  | .isValidSlaveAddress _ => .empty
  | .valid _ => .empty
  | .decPair _ _ => .empty
  | .encodeFrame _ _ _ _ => .empty
  | .crcInit _ => .empty
  | .crcFold _ => .empty
  | .crcCheck _ => .empty

/-- The row is the one its context selects: the table's `state` key and `note` condition for a WIRE row (rule R100),
the port for a host operation, the phase and the strategy for a phase row, the value for a symbol. A pure function
and the two encoder shapes `ENC_HIGH(p)`, `ENC_LOW(p)` are selected by no word (rule R106: empty `encoding`, or the
same 16 bytes as ENC, rule R96). -/
def Context.selects : Context → Instr → Bool
  | .wire k, i =>
    match i with
    | .idleNul => k.rxState == .idle
    | .idleSoh => k.rxState == .idle
    | .idleOther _ => k.rxState == .idle
    | .sohDstAccept dst => k.rxState == .sohReceived && (dst == k.ownAddr || dst == BROADCAST)
    | .sohDstReject dst => k.rxState == .sohReceived && dst != k.ownAddr
    | .destSrc _ => k.rxState == .destAddressReceived
    | .srcTid _ => k.rxState == .srcAddressReceived
    | .tidLenOk _ => k.rxState == .transactionIdReceived
    | .tidLenZero => k.rxState == .transactionIdReceived
    | .lenStx => k.rxState == .messageLenReceived
    | .lenOther _ => k.rxState == .messageLenReceived
    | .stxEncHigh _ _ => k.rxState == .stxReceived && k.first
    | .stxEncLow _ _ => k.rxState == .stxReceived && !k.first
    | .stxEtx => k.rxState == .stxReceived
    | .stxOther _ => k.rxState == .stxReceived
    | .etxCrcMatch crc => k.rxState == .etxReceived && crc == k.crc
    | .etxCrcMismatch crc => k.rxState == .etxReceived && crc != k.crc
    | .crcOkEot => k.rxState == .crcOk
    | .crcOkOther _ => k.rxState == .crcOk
    | _ => false
  | .port, i =>
    match i with
    | .construct _ _ _ _ => true
    | .tick => true
    | .enqueue _ _ _ => true
    | .pending => true
    | .available => true
    | .read => true
    | .getAddr => true
    | .setAddr _ => true
    | .isBroadcast _ => true
    | .reply _ _ _ => true
    | .unassignedAB _ => true
    | .unassignedCF _ => true
    | _ => false
  | .symbol, i =>
    match i with
    | .symNul => true
    | .symSoh => true
    | .symStx => true
    | .symEtx => true
    | .symEot => true
    | .symLf => true
    | .symEnc _ _ => true
    | _ => false
  | .sequencer p mode, i =>
    match i with
    | .txGate => p == .drain
    | .txAssert => p == .assertDe
    | .txSettle1 => p == .settle1
    | .txWrite => p == .write
    | .txCompleteExact => p == .complete && mode == .exact
    | .txCompleteFlushEstimate => p == .complete && mode == .flushEstimate
    | .txCompleteEstimate => p == .complete && mode == .estimate
    | .txDeassert => p == .deassert true || p == .deassert false
    | .txSettle2 => p == .settle2 true || p == .settle2 false
    | .txCommit => p == .commit
    | .txFail => p == .fail
    | .rxTimeout => p == .timeout .nothing || p == .timeout .sent || p == .timeout .failed
    | _ => false

/-! ## Words numbered as the opcode table numbers them -/

/-- The context of a freshly reset receiver at address 0. -/
def resetWireContext : WireContext := { rxState := .idle, ownAddr := 0#8, first := true, crc := 0#8 }

/-- A word of the table by its number alone. The table gives the same number to a command code and to a byte in each
of nine receiver states, so the number does not say where the word stands (log entry 3): a number below 16 is a
4-bit operation code on the command port, all operand lanes at their defaults; a larger byte is no code, and is
read as a wire byte by the receiver right after reset. -/
def decodeTableWord (nbits w : Nat) : Option Instr :=
  if nbits = 0 ∨ 8 < nbits ∨ 256 ≤ w then none
  else if w < 16 then
    match decode .port (.command { code := BitVec.ofNat 4 w }) with
    | .instr i => some i
    | .reject _ => none
  else
    match decode (.wire resetWireContext) (.byte (BitVec.ofNat 8 w)) with
    | .instr i => some i
    | .reject _ => none

end Sys2Proof
end

