-- ==== Sys2Proof/Machine/State.lean ====
section
/-! DEFINITION. Machine/State.lean: the state of one engine (rule R20), its parameters (rule R10), the hidden phase
register (rule R37), what has left the block (rule R16), and the environment's side as plain data (rule R45: "inputs
of the step (an oracle or a script)"). -/

namespace Sys2Proof.Machine

/-- The machine. Fields in groups: the engine's registers and stores; parameters; the phase of the TICK under way;
the host's answer port and the outputs; the environment's script; the model's own counter of free values. -/
structure State where
  /-- an engine exists: a CONSTRUCT has succeeded (rules R17, R18, R232) -/
  built : Bool
  /-- the node's address (rule R21) -/
  ownAddr : Byte
  /-- the receiver state register (rule R22) -/
  rxState : RxState
  /-- the in-progress reception (rules R23, R24) -/
  rx : Option Reception
  /-- the time of the last observed bus activity (rule R30) -/
  lastBusActivity : Nat
  /-- the inbound FIFO, head first (rule R32) -/
  rxFifo : List Message
  /-- the outbound FIFO, head first (rule R33) -/
  txFifo : List Frame
  /-- the direction-control output, true = asserted (rule R35) -/
  de : Bool
  /-- the parameters (rule R10) -/
  params : Params
  /-- the hidden phase register (rule R37) -/
  phase : Phase
  /-- the last answer given to the host (rules R16 a, R40) -/
  result : Result
  /-- everything that has left the block, oldest first (rule R16 b to d) -/
  out : List Output
  /-- host operations issued and not yet taken by the command port, oldest first (rules R9, R103) -/
  commands : List Command
  /-- the channel's receive stream, oldest first (rule R45 a) -/
  chanRx : List RxItem
  /-- the channel's transmit stream: the bytes put on the wire, oldest first (rules R45 b, R60) -/
  chanTx : List Byte
  /-- the millisecond clock's present value (rules R45 c, R292) -/
  clock : Nat
  /-- scripted clock progress of the next primitives (rule R104); none left: free -/
  advances : List Nat
  /-- scripted write outcomes (rule R104 `WRITE`); none left: free -/
  writeAnswers : List WriteAnswer
  /-- scripted answers to the transmission-complete query (rule R104 `DONE`); none left: free -/
  doneAnswers : List DoneAnswer
  /-- scripted flush outcomes; none left: free -/
  flushAnswers : List FlushAnswer
  /-- the model's own counter: which free value is used next (log entry 5) -/
  freeIndex : Nat
deriving DecidableEq, Repr

/-- Why the machine stops with a fault. -/
inductive Fault where
  /-- Raised by a WIRE, EVENT, PHASE or accumulator row that is run outside the receiver state, condition or phase
  the table gives it (rules R100, R203), where the spec gives it no effect. `step` selects rows by their context,
  so no step of a state that meets `Inv` raises it. Safe: the machine stops. -/
  | outOfPlace
deriving DecidableEq, Repr

/-- Why a unit of work has no meaning. -/
inductive Refusal where
  /-- Raised by exec's arms only, for an instruction that has no meaning yet. Safe. -/
  | notModelled (mnemonic : String)
  /-- Raised by every host operation issued while a TICK is under way: "Two overlapping host operations have no
  defined meaning; a model gives them none" (rule R320, I7: refuse). Safe. -/
  | overlappingOperations
  /-- Raised by every host operation but CONSTRUCT and the unassigned codes when no engine exists: a breach of the
  duty to construct first "has no meaning in this spec (no move)" (rule R18). Safe. -/
  | noEngine
  /-- Raised by CONSTRUCT and by the two estimate rows when `BAUD` is not positive and an estimate mode is used:
  "a model should refuse it" (rules R215, R231, D15). Safe. -/
  | baudNotPositive
  /-- Raised by the drain when the channel's count or read fails: "The spec gives the receive side no failure
  outcome" (N14, I8: refuse). Safe. -/
  | receiveFailure
  /-- Raised by step when a word is no unit of work in its context; no state makes step's own fetch do so. Safe. -/
  | notDecodable (r : DecodeReject)
deriving DecidableEq, Repr

/-- The machine right after reset: after a successful CONSTRUCT (rules R50, R310, R311) with the default parameters
of Config (log entry 2), the clock reading 0 (log entry 4), and an environment that has scripted nothing. -/
def State.reset : State where
  built := true
  ownAddr := ({} : Params).addr
  rxState := .idle
  rx := none
  lastBusActivity := Config.lbaReset 0
  rxFifo := []
  txFifo := []
  de := false
  params := {}
  phase := .idle
  result := .status .ok
  out := []
  commands := []
  chanRx := []
  chanTx := []
  clock := 0
  advances := []
  writeAnswers := []
  doneAnswers := []
  flushAnswers := []
  freeIndex := 0

/-- Before any CONSTRUCT: no engine exists (rule R17). The engine's registers hold the reset values, which no
operation reads before a CONSTRUCT writes them. -/
def State.powerOn : State := { State.reset with built := false }

/-- What every meaning answers. -/
abbrev Answer := Host.Outcome State Fault Refusal

end Sys2Proof.Machine
end

