-- ==== Sys2Proof/Machine/Ops.lean ====
section
/-! DEFINITION. Machine/Ops.lean: the primitives of rule R12, each the only place that touches its part of the state:
time, the channel, the direction-control output, the FIFOs, the trace port, the host's answer port, and the discard,
the block's one exception entry (rule R280). -/

namespace Sys2Proof.Machine

/-! ## Time (rules R292, R293, I11) -/

/-- The free-value counter after an input is taken from a script: it moves only when the script is used up. -/
def freeIndexAfter {α : Type} (script : List α) (n : Nat) : Nat :=
  match script with
  | [] => n + 1
  | _ :: _ => n

/-- How far the clock moves at the next primitive beyond what the primitive itself asks for. -/
def State.nextAdvance (s : State) : Nat :=
  match s.advances with
  | [] => Config.freeAdvance s.freeIndex
  | d :: _ => d

/-- Time passes: at least `atLeast` milliseconds, never backwards. -/
def passTime (atLeast : Nat) (s : State) : State :=
  { s with
    clock := s.clock + atLeast + s.nextAdvance
    advances := s.advances.tail
    freeIndex := freeIndexAfter s.advances s.freeIndex }

/-- `Clock()` (rule R292): the reading is the `clock` of the state it answers. -/
def readClock (s : State) : State := passTime 0 s

/-- `Wait(d)` (rule R293): every later reading is at least `floor(d)` beyond the last one. -/
def wait (d : Duration) (s : State) : State :=
  { passTime d.floorMs s with out := s.out ++ [.wait d] }

/-! ## The channel (rules R290, R291) -/

/-- `ChanAvail()`: the bytes held now, up to the point where the count reads zero. -/
def chanAvail (s : State) : Nat := (s.chanRx.takeWhile (fun x => x != RxItem.silence)).length

/-- The channel's answer to the next write. -/
def State.nextWrite (s : State) : WriteAnswer :=
  match s.writeAnswers with
  | [] => Config.freeWrite s.freeIndex
  | a :: _ => a

/-- The bytes of `f` that reach the wire: all, or some first part when the write fails (rule R206, I10). -/
def bytesOnWire (a : WriteAnswer) (f : Frame) : List Byte :=
  match a with
  | .ok => f
  | .fail sent => f.take sent

/-- `ChanWrite(f)`: the whole frame in one call, first byte first (rules R63, R68, R206). -/
def chanWrite (f : Frame) (s : State) : State :=
  passTime 0 { s with
    chanTx := s.chanTx ++ bytesOnWire s.nextWrite f
    out := s.out ++ [.write f]
    writeAnswers := s.writeAnswers.tail
    freeIndex := freeIndexAfter s.writeAnswers s.freeIndex }

/-- The channel's answer to the next transmission-complete query. -/
def State.nextDone (s : State) : DoneAnswer :=
  match s.doneAnswers with
  | [] => Config.freeDone s.freeIndex
  | a :: _ => a

/-- `ChanDone()` (rule R207). -/
def chanDone (s : State) : State :=
  passTime 0 { s with
    out := s.out ++ [.askDone]
    doneAnswers := s.doneAnswers.tail
    freeIndex := freeIndexAfter s.doneAnswers s.freeIndex }

/-- The channel's answer to the next flush. -/
def State.nextFlush (s : State) : FlushAnswer :=
  match s.flushAnswers with
  | [] => Config.freeFlush s.freeIndex
  | a :: _ => a

/-- `ChanFlush()` (rule R208). -/
def chanFlush (s : State) : State :=
  passTime 0 { s with
    out := s.out ++ [.flush]
    flushAnswers := s.flushAnswers.tail
    freeIndex := freeIndexAfter s.flushAnswers s.freeIndex }

/-! ## The direction-control output (rules R35, R204, R210, R294) -/

/-- `SetDE(v)`. -/
def setDE (v : Bool) (s : State) : State := { s with de := v, out := s.out ++ [.drive v] }

/-! ## The FIFOs (rules R12, R62, R75) -/

/-- A FIFO of `n` elements is full; an unbounded one never is (rule R62). -/
def fifoFull (depth : Option Nat) (n : Nat) : Bool :=
  match depth with
  | none => false
  | some d => decide (d ≤ n)

/-- `Push(rx_fifo, m)`. -/
def pushRx (m : Message) (s : State) : State := { s with rxFifo := s.rxFifo ++ [m] }

/-- `Pop(rx_fifo)`: what is left. -/
def popRx (s : State) : State := { s with rxFifo := s.rxFifo.tail }

/-- `Push(tx_fifo, f)`. -/
def pushTx (f : Frame) (s : State) : State := { s with txFifo := s.txFifo ++ [f] }

/-- `Pop(tx_fifo)`: what is left. -/
def popTx (s : State) : State := { s with txFifo := s.txFifo.tail }

/-- `Head(tx_fifo)`; the sequencer calls it only when the FIFO is not empty. -/
def State.headFrame (s : State) : Frame := s.txFifo.headD []

/-! ## Trace (rule R298, D31) -/

/-- The DISCARD event leaves the block whenever the port exists. -/
def traceDiscard (p : TracePort) (c : DiscardCause) (st : RxState) : List Output :=
  match p with
  | .absent => []
  | .discardsOnly => [.trace (.discard c.code st.number)]
  | .full => [.trace (.discard c.code st.number)]

/-- The TRANSITION event, at each change of `rx_state` by a byte row or a discard; CONSTRUCT emits none (log entry 20). -/
def traceTransition (p : TracePort) (old new : RxState) : List Output :=
  match p with
  | .absent => []
  | .discardsOnly => []
  | .full => if old = new then [] else [.trace (.transition old.number new.number)]

/-- The TX event, at each send attempt. -/
def traceTx (p : TracePort) (r : TxResult) : List Output :=
  match p with
  | .absent => []
  | .discardsOnly => []
  | .full => [.trace (.tx r)]

/-- Emit trace output; it never feeds back. -/
def emit (events : List Output) (s : State) : State := { s with out := s.out ++ events }

/-! ## The receiver's registers -/

/-- `rx_state <- st` (rule R22). -/
def goto (st : RxState) (s : State) : State :=
  { s with rxState := st, out := s.out ++ traceTransition s.params.trace s.rxState st }

/-- Write the in-progress reception. -/
def setRx (r : Reception) (s : State) : State := { s with rx := some r }

/-- The byte step's common part (rule R160): one clock reading, stored as the last bus activity. -/
def stamp (s : State) : State := { readClock s with lastBusActivity := (readClock s).clock }

/-- A new reception (rules R25, R162): `start`, `first`, `count` and `payload` are initialised, the other six fields
hold no value yet, so they are free (D23). -/
def newReception (t : Nat) (n : Nat) : Reception :=
  { start := t, first := true, count := 0, payload := [],
    dst := Config.unwritten n 0, src := Config.unwritten n 1, tid := Config.unwritten n 2,
    len := Config.unwritten n 3, crc := Config.unwritten n 4, half := Config.unwritten n 5 }

/-- `rx <- new reception`, started at the clock's present value. -/
def createReception (s : State) : State :=
  { s with rx := some (newReception s.clock s.freeIndex), freeIndex := s.freeIndex + 1 }

/-! ## The discard: exception entry (rule R280) and return (rule R283) -/

/-- `Discard(cause)`: trace, destroy the reception, go to IDLE. Nothing is saved and there is no return
instruction: the next byte is judged by the IDLE rules. -/
def discard (c : DiscardCause) (s : State) : State :=
  { s with
    rx := none
    rxState := .idle
    out := s.out ++ (traceDiscard s.params.trace c s.rxState ++ traceTransition s.params.trace s.rxState .idle) }

/-! ## The sequencer and the host's answer port -/

/-- The next phase of the TICK under way. -/
def toPhase (p : Phase) (s : State) : State := { s with phase := p }

/-- Give the host an answer (rule R16 a). -/
def respond (r : Result) (s : State) : State := { s with result := r }

/-- `raise E` (rule R12): the operation ends with an error kind and changes no state. -/
def raise (e : Status) (s : State) : State := respond (.status e) s

/-- A host operation on an engine: operations do not overlap (rule R320), and an engine must exist (rule R18). -/
def hostOp (s : State) (body : Answer) : Answer :=
  if s.phase = .idle then
    if s.built then body else .refused .noEngine
  else .refused .overlappingOperations

/-- An operation the command port takes without an engine: CONSTRUCT and the unassigned codes. -/
def portOp (s : State) (body : Answer) : Answer :=
  if s.phase = .idle then body else .refused .overlappingOperations

/-- A row of the receiver in state `st` under the row's condition (rule R100), on the reception under way. -/
def atRow (s : State) (st : RxState) (condition : Reception → Bool) (body : Reception → Answer) : Answer :=
  if s.rxState = st then
    match s.rx with
    | some r => if condition r then body r else .fault .outOfPlace
    | none => .fault .outOfPlace
  else .fault .outOfPlace

/-- A row of the receiver in IDLE, where no reception is present. -/
def atIdle (s : State) (condition : Bool) (body : Answer) : Answer :=
  if s.rxState = .idle then
    if condition then body else .fault .outOfPlace
  else .fault .outOfPlace

/-- A row of the sequencer in phase `p`. -/
def inPhase (s : State) (p : Phase) (body : Answer) : Answer :=
  if s.phase = p then body else .fault .outOfPlace

end Sys2Proof.Machine
end

