-- ==== Sys2Proof/Machine/Operands.lean ====
section
/-! DEFINITION. Machine/Operands.lean: how each unit of work gets its operands: an encoded byte from its nibbles, the
decoding context from the state, the operand checks of the host operations, the frame a send attempt writes. -/

namespace Sys2Proof.Machine

/-- The receiver's decoding context (rule R100). Without a reception the two fields of `rx` hold no value and no
row of that state reads them. -/
def wireContext (s : State) : WireContext :=
  match s.rx with
  | some r => { rxState := s.rxState, ownAddr := s.ownAddr, first := r.first, crc := r.crc }
  | none => { rxState := s.rxState, ownAddr := s.ownAddr, first := true, crc := 0#8 }

/-- The destination byte is the node's own address or broadcast (rule R164). -/
def destinationAccepted (s : State) (b : Byte) : Bool := b == s.ownAddr || b == BROADCAST

/-- The address operand of CONSTRUCT and SET_ADDR is a valid node address (rules R120, R230, R252). -/
def addrOperandOk (a : Byte) : Bool := isValidNodeAddr (a.toNat : Int)

/-- CONSTRUCT's settle operand: strictly positive (rule R231). -/
def settleOperandOk (d : Duration) : Bool := d.positive

/-- `BAUD` may be used for an estimate (rule R215), or is not used at all. -/
def baudUsable (completion : Completion) (baud : Int) : Bool :=
  match completion with
  | .exact => true
  | .flushEstimate => decide (0 < baud)
  | .estimate => decide (0 < baud)

/-- The message a finished reception becomes (rule R178). -/
def messageOf (r : Reception) : Message :=
  { src := r.src, dst := r.dst, tid := r.tid, len := r.len, payload := r.payload }

/-- The wait of the FLUSH_ESTIMATE mode (rule R208). -/
def flushEstimateWait (s : State) : Duration :=
  (estimateMs s.params s.headFrame.length).times s.params.marginFlush

/-- The wait of the ESTIMATE mode (rule R209). -/
def estimateWait (s : State) : Duration :=
  (estimateMs s.params s.headFrame.length).times s.params.marginNoFlush

end Sys2Proof.Machine
end

