-- ==== Sys2Proof/Machine/Flags.lean ====
section
/-! DEFINITION. Machine/Flags.lean: the conditions the block tests: the first-nibble flag (rule R26), the length and
checksum comparisons at the trailer (rules R154, R157, R173), and the two time comparisons (rules R158, R295). -/

namespace Sys2Proof.Machine

/-- `rx.first` after an encoded byte taken as the high nibble (rule R170): the flag and the half byte. -/
def takeHigh (r : Reception) (b : Byte) : Reception := { r with half := b &&& 0xF0#8, first := false }

/-- The byte a low-nibble wire byte completes: `rx.half | (b & 0x0F)` (rule R171), `dec_pair` of the two wire bytes
(rule R133) because `rx.half` keeps only the first one's high nibble. -/
def completedByte (r : Reception) (b : Byte) : Byte := r.half ||| (b &&& 0x0F#8)

/-- A low nibble completes a byte (rules R171, R172): the flag is set again, the byte is folded in, counted up to 256
and stored while the count is below the declared length. -/
def takeLow (r : Reception) (b : Byte) : Reception :=
  { r with
    first := true
    crc := checksumFold r.crc (completedByte r b)
    payload := if r.count < r.len.toNat then r.payload ++ [completedByte r b] else r.payload
    count := min (r.count + 1) 256 }

/-- The equality check on the number of decoded bytes (rules R102, R157, R173). -/
def lengthMatches (r : Reception) : Bool := r.count == r.len.toNat

/-- `crc_check` (rule R154): exact equality of 8-bit values. -/
def checksumMatches (r : Reception) (b : Byte) : Bool := b == r.crc

/-- The line-idle gate at the clock's present value (rule R201). -/
def gateOpen (s : State) : Bool := decide (s.params.lineReadyMs ≤ s.clock - s.lastBusActivity)

/-- The packet timeout at the clock's present value: strictly exceeded (rule R185). -/
def timedOut (s : State) (r : Reception) : Bool := decide (s.params.packetTimeoutMs < s.clock - r.start)

end Sys2Proof.Machine
end

