-- ==== Sys2Proof/Machine/Functions.lean ====
section
/-! DEFINITION. Machine/Functions.lean: the FUNCTION rows. A pure function changes nothing but the answer; the two
accumulator steps are given by their rules as assignments to `rx.crc` (rules R151, R153), so they also write it. That the
answer goes to `result`, and that a row answers its formula for operands outside the domain its rule names (which
`Instr.wellFormed` excludes), is DESIGN CHOICE (log entry 23). -/

namespace Sys2Proof.Machine

/-- Rule R120. -/
def execIsValidNodeAddress (a : Int) (s : State) : Answer := .next (respond (.flag (isValidNodeAddr a)) s)

/-- Rule R121. -/
def execIsValidSlaveAddress (a : Int) (s : State) : Answer := .next (respond (.flag (isValidSlaveAddr a)) s)

/-- Rule R132. -/
def execValid (b : Byte) (s : State) : Answer := .next (respond (.flag (validByte b)) s)

/-- Rule R133; the rule's domain is two valid bytes (log entry 23). -/
def execDecPair (b1 b2 : Byte) (s : State) : Answer := .next (respond (.byte (decodePair b1 b2)) s)

/-- Rule R134; the rule's domain is a payload of 1 to 255 bytes (log entry 23). -/
def execEncodeFrame (dst src tid : Byte) (payload : List Byte) (s : State) : Answer :=
  .next (respond (.bytes (frameBytes dst src tid payload)) s)

/-! The accumulator exists only inside a reception (rule R27), and a rule reads `rx.dst`, `rx.src` and `rx.crc` only in
states that can be reached only after they were written (rule R25). So each accumulator row runs in the one state in
which its rule performs it and is out of place elsewhere (log entry 24), and no answer depends on an unwritten field. -/

/-- Rule R151, performed in TRANSACTION_ID_RECEIVED: `rx.crc <- rx.dst ^ rx.src ^ b`. -/
def execCrcInit (b : Byte) (s : State) : Answer :=
  atRow s .transactionIdReceived (fun _ => true) fun r =>
    .next (respond (.byte (checksumInit r.dst r.src b)) (setRx { r with crc := checksumInit r.dst r.src b } s))

/-- Rule R153, performed by rule R171 in STX_RECEIVED: `rx.crc <- rx.crc ^ d`. -/
def execCrcFold (d : Byte) (s : State) : Answer :=
  atRow s .stxReceived (fun _ => true) fun r =>
    .next (respond (.byte (checksumFold r.crc d)) (setRx { r with crc := checksumFold r.crc d } s))

/-- Rule R154, the byte received in ETX_RECEIVED: `b == rx.crc`. -/
def execCrcCheck (b : Byte) (s : State) : Answer :=
  atRow s .etxReceived (fun _ => true) fun r => .next (respond (.flag (checksumMatches r b)) s)

end Sys2Proof.Machine
end

