-- ==== Sys2Proof/Machine/HostOps.lean ====
section
/-! DEFINITION. Machine/HostOps.lean: the HOSTOP rows, the host operations of `45_bus_engine.md` by the codes of rule
R103. An operation that raises an error changes nothing but the answer. -/

namespace Sys2Proof.Machine

/-- The state a successful CONSTRUCT leaves (rules R50, R232, R310): the engine's state is new, queued frames and
undelivered messages of an engine before it are lost (rule R311); the channel's buffers are not touched. DESIGN CHOICE
(log entry 20): a CONSTRUCT that replaces an engine in mid-reception emits no trace event, neither DISCARD nor TRANSITION,
on any trace port; rule R298 leaves the event set open. -/
def constructed (addr : Byte) (settle : Duration) (baud : Int) (completion : Completion) (s : State) : State :=
  { readClock s with
    built := true
    ownAddr := addr
    rxState := .idle
    rx := none
    lastBusActivity := Config.lbaReset (readClock s).clock
    rxFifo := []
    txFifo := []
    de := false
    params := { s.params with addr := addr, settle := settle, baud := baud, completion := completion } }

/-- CONSTRUCT (rules R230 to R232): the address is checked first (D20), then the settle time; a configuration that
would divide by a non-positive `BAUD` is refused (D15). -/
def execConstruct (addr : Byte) (settle : Duration) (baud : Int) (completion : Completion) (s : State) : Answer :=
  portOp s <|
    if !addrOperandOk addr then .next (raise .eAddr s)
    else if !settleOperandOk settle then .next (raise .eSettle s)
    else if !baudUsable completion baud then .refused .baudNotPositive
    else .next (respond (.status .ok) (constructed addr settle baud completion s))

/-- TICK (rule R235) begins with the receive drain; the sequencer carries it through the transmit step and the
timeout check (rule R284 a), which gives the answer. -/
def execTick (s : State) : Answer := hostOp s (.next (toPhase .drain s))

/-- `enqueue` (rules R240, R241): length first, then the full-queue check of a finite queue (rule R284 e). The
frame's source byte is the address as it is now (rule R80). -/
def enqueueFrame (dest : Byte) (payload : List Byte) (tid : Byte) (s : State) : State :=
  if !payloadLengthOk payload then raise .eLen s
  else if fifoFull s.params.txqDepth s.txFifo.length then raise .eQueueFull s
  else respond (.status .ok) (pushTx (frameBytes dest s.ownAddr tid payload) s)

/-- ENQUEUE (rule R240). -/
def execEnqueue (dest : Byte) (payload : List Byte) (tid : Byte) (s : State) : Answer :=
  hostOp s (.next (enqueueFrame dest payload tid s))

/-- PENDING (rule R245). -/
def execPending (s : State) : Answer := hostOp s (.next (respond (.count s.txFifo.length) s))

/-- AVAILABLE (rule R246). -/
def execAvailable (s : State) : Answer := hostOp s (.next (respond (.count s.rxFifo.length) s))

/-- READ (rules R247, R248): the oldest message, or `E_EMPTY`. -/
def execRead (s : State) : Answer :=
  hostOp s <|
    match s.rxFifo with
    | [] => .next (raise .eEmpty s)
    | m :: _ => .next (respond (.message m) (popRx s))

/-- GET_ADDR (rule R250). -/
def execGetAddr (s : State) : Answer := hostOp s (.next (respond (.address s.ownAddr) s))

/-- SET_ADDR (rule R252): effective at once, nothing else changes. -/
def execSetAddr (a : Byte) (s : State) : Answer :=
  hostOp s <|
    if addrOperandOk a then .next (respond (.status .ok) { s with ownAddr := a })
    else .next (raise .eAddr s)

/-- IS_BROADCAST (rule R255). -/
def execIsBroadcast (m : Message) (s : State) : Answer :=
  hostOp s (.next (respond (.flag (m.dst == BROADCAST)) s))

/-- REPLY (rule R256): one ENQUEUE back to the message's source, unless it was a broadcast. -/
def execReply (m : Message) (payload : List Byte) (override : Bool) (s : State) : Answer :=
  hostOp s <|
    if m.dst == BROADCAST && !override then .next (raise .eBroadcastReply s)
    else .next (enqueueFrame m.src payload m.tid s)

/-- Codes 0xA and 0xB (rule R103): refused with `E_BAD_OP`, no state change. -/
def execUnassignedAB (_x : BitVec 1) (s : State) : Answer := portOp s (.next (raise .eBadOp s))

/-- Codes 0xC to 0xF (rule R103): refused with `E_BAD_OP`, no state change. -/
def execUnassignedCF (_x : BitVec 2) (s : State) : Answer := portOp s (.next (raise .eBadOp s))

end Sys2Proof.Machine
end

