-- ==== Sys2Proof/Machine/Receiver.lean ====
section
/-! DEFINITION. Machine/Receiver.lean: the WIRE rows, one per (state, byte class) pair of rule R100, the byte step
`RxByte(b)` that dispatches to them (rule R160), and the packet timeout (rule R185). Every row but IDLE.NUL begins
with the stamp of rule R160. -/

namespace Sys2Proof.Machine

/-! ## IDLE -/

/-- Rule R161: consumed with no effect; only the byte step's clock reading is taken. -/
def execIdleNul (s : State) : Answer := atIdle s true (.next (readClock s))

/-- Rule R162: a new reception, started at the byte's clock reading. -/
def execIdleSoh (s : State) : Answer :=
  atIdle s true (.next (goto .sohReceived (createReception (stamp s))))

/-- Rule R163: ignored, but it is bus activity. -/
def execIdleOther (b : Byte) (s : State) : Answer :=
  atIdle s (b != NUL && b != SOH) (.next (stamp s))

/-! ## Header -/

/-- Rule R164: the destination is accepted and kept as received. -/
def execSohDstAccept (dst : Byte) (s : State) : Answer :=
  atRow s .sohReceived (fun _ => destinationAccepted s dst) fun r =>
    .next (goto .destAddressReceived (setRx { r with dst := dst } (stamp s)))

/-- Rule R175. -/
def execSohDstReject (dst : Byte) (s : State) : Answer :=
  atRow s .sohReceived (fun _ => !destinationAccepted s dst) fun _ =>
    .next (discard .addrMismatch (stamp s))

/-- Rule R165: no validation. -/
def execDestSrc (src : Byte) (s : State) : Answer :=
  atRow s .destAddressReceived (fun _ => true) fun r =>
    .next (goto .srcAddressReceived (setRx { r with src := src } (stamp s)))

/-- Rule R166. -/
def execSrcTid (tid : Byte) (s : State) : Answer :=
  atRow s .srcAddressReceived (fun _ => true) fun r =>
    .next (goto .transactionIdReceived (setRx { r with tid := tid } (stamp s)))

/-- Rule R167: the length is kept and the checksum started (rule R151). -/
def execTidLenOk (len : Byte) (s : State) : Answer :=
  atRow s .transactionIdReceived (fun _ => len != 0#8) fun r =>
    .next (goto .messageLenReceived (setRx { r with len := len, crc := checksumInit r.dst r.src len } (stamp s)))

/-- Rule R168. -/
def execTidLenZero (s : State) : Answer :=
  atRow s .transactionIdReceived (fun _ => true) fun _ => .next (discard .badLength (stamp s))

/-- Rule R169: no field of `rx` changes. -/
def execLenStx (s : State) : Answer :=
  atRow s .messageLenReceived (fun _ => true) fun _ => .next (goto .stxReceived (stamp s))

/-- Rule R180. -/
def execLenOther (b : Byte) (s : State) : Answer :=
  atRow s .messageLenReceived (fun _ => b != STX) fun _ => .next (discard .badStx (stamp s))

/-! ## Body -/

/-- Rule R170: the high nibble. -/
def execStxEncHigh (h c : Nibble) (s : State) : Answer :=
  atRow s .stxReceived (fun r => c == ~~~h && r.first) fun r =>
    .next (setRx (takeHigh r (joinNibbles h c)) (stamp s))

/-- Rules R171, R172: the low nibble completes a byte. -/
def execStxEncLow (c l : Nibble) (s : State) : Answer :=
  atRow s .stxReceived (fun r => c == ~~~l && !r.first) fun r =>
    .next (setRx (takeLow r (joinNibbles c l)) (stamp s))

/-- Rule R173: the count alone decides; a pending high nibble is dropped. -/
def execStxEtx (s : State) : Answer :=
  atRow s .stxReceived (fun _ => true) fun r =>
    if lengthMatches r then .next (goto .etxReceived (stamp s))
    else .next (discard .lengthMismatch (stamp s))

/-- Rule R174. -/
def execStxOther (b : Byte) (s : State) : Answer :=
  atRow s .stxReceived (fun _ => !validByte b && b != ETX) fun _ => .next (discard .badData (stamp s))

/-! ## Trailer -/

/-- Rule R176. -/
def execEtxCrcMatch (crc : Byte) (s : State) : Answer :=
  atRow s .etxReceived (fun r => checksumMatches r crc) fun _ => .next (goto .crcOk (stamp s))

/-- Rule R177. -/
def execEtxCrcMismatch (crc : Byte) (s : State) : Answer :=
  atRow s .etxReceived (fun r => !checksumMatches r crc) fun _ => .next (discard .badChecksum (stamp s))

/-- The success path (rule R178); a full finite `rx_fifo` drops the frame with RX_OVERFLOW (rule R62). -/
def deliver (r : Reception) (s : State) : State :=
  if fifoFull s.params.rxqDepth s.rxFifo.length then discard .rxOverflow s
  else goto .idle { pushRx (messageOf r) s with rx := none }

/-- Rule R178. -/
def execCrcOkEot (s : State) : Answer :=
  atRow s .crcOk (fun _ => true) fun r => .next (deliver r (stamp s))

/-- Rule R179. -/
def execCrcOkOther (b : Byte) (s : State) : Answer :=
  atRow s .crcOk (fun _ => b != EOT) fun _ => .next (discard .badEot (stamp s))

/-! ## The byte step -/

/-- `RxByte(b)` (rule R160): exactly one row runs (rules R100, R181). -/
def rxByte (b : Byte) (s : State) : Answer :=
  match s.rxState with
  | .idle => if b = NUL then execIdleNul s else if b = SOH then execIdleSoh s else execIdleOther b s
  | .sohReceived => if destinationAccepted s b then execSohDstAccept b s else execSohDstReject b s
  | .destAddressReceived => execDestSrc b s
  | .srcAddressReceived => execSrcTid b s
  | .transactionIdReceived => if b = 0#8 then execTidLenZero s else execTidLenOk b s
  | .messageLenReceived => if b = STX then execLenStx s else execLenOther b s
  | .stxReceived =>
    if validByte b then
      if (wireContext s).first then execStxEncHigh (highNibble b) (lowNibble b) s
      else execStxEncLow (highNibble b) (lowNibble b) s
    else if b = ETX then execStxEtx s else execStxOther b s
  | .etxReceived => if b = (wireContext s).crc then execEtxCrcMatch b s else execEtxCrcMismatch b s
  | .crcOk => if b = EOT then execCrcOkEot s else execCrcOkOther b s

/-! ## The packet timeout -/

/-- `RxTimeout()` (rule R185): in IDLE nothing is read; otherwise one clock reading decides. -/
def rxTimeoutCheck (s : State) (body : State → Answer) : Answer :=
  if s.rxState = .idle then body s
  else
    match s.rx with
    | some r => if timedOut (readClock s) r then body (discard .timeout (readClock s)) else body (readClock s)
    | none => .fault .outOfPlace

/-- The end of a TICK (rule R235): the timeout check, then TICK returns its `tx_result`. -/
def execRxTimeout (s : State) : Answer :=
  match s.phase with
  | .timeout r => rxTimeoutCheck s fun s' => .next (respond (.tick r) (toPhase .idle s'))
  | _ => .fault .outOfPlace

end Sys2Proof.Machine
end

