-- ==== Sys2Proof/Machine/Symbols.lean ====
section
/-! DEFINITION. Machine/Symbols.lean: the SYMBOL rows. A wire symbol is "one byte taken from the channel and interpreted
by the receiver in its current state" (rule R8 a): each control byte and each valid encoded byte is one byte step of
its value (rules R92, R95, R160). The two encoder shapes give the wire byte of a payload byte (rules R130, R131). -/

namespace Sys2Proof.Machine

/-- NUL = 0x00 (rule R92). -/
def execSymNul (s : State) : Answer := rxByte NUL s

/-- SOH = 0x01 (rule R92). -/
def execSymSoh (s : State) : Answer := rxByte SOH s

/-- STX = 0x02 (rule R92). -/
def execSymStx (s : State) : Answer := rxByte STX s

/-- ETX = 0x03 (rule R92). -/
def execSymEtx (s : State) : Answer := rxByte ETX s

/-- EOT = 0x04 (rule R92). -/
def execSymEot (s : State) : Answer := rxByte EOT s

/-- LF = 0x0A (rule R92). -/
def execSymLf (s : State) : Answer := rxByte LF s

/-- The encoded byte `{h, c}` (rule R95); the row is one of the 16 valid bytes only when `c = ~h`. -/
def execSymEnc (h c : Nibble) (s : State) : Answer := rxByte (joinNibbles h c) s

/-- `enc_high(p)` (rule R130). -/
def execSymEncHigh (p : Byte) (s : State) : Answer := .next (respond (.byte (encHigh p)) s)

/-- `enc_low(p)` (rule R131). -/
def execSymEncLow (p : Byte) (s : State) : Answer := .next (respond (.byte (encLow p)) s)

end Sys2Proof.Machine
end

