-- ==== Sys2Proof/Machine/Transmit.lean ====
section
/-! DEFINITION. Machine/Transmit.lean: the PHASE rows, the transmit step of a TICK (rules R200 to R214): the gate, and
the phases of one send attempt. Each row runs in its own phase and names the next. -/

namespace Sys2Proof.Machine

/-- Rules R200 to R202: with an empty queue nothing is done; otherwise one clock reading decides. -/
def execTxGate (s : State) : Answer :=
  inPhase s .drain <|
    if s.txFifo = [] then .next (toPhase (.timeout .nothing) s)
    else if gateOpen (readClock s) then .next (toPhase .assertDe (readClock s))
    else .next (toPhase (.timeout .nothing) (readClock s))

/-- Rule R204. -/
def execTxAssert (s : State) : Answer :=
  inPhase s .assertDe (.next (toPhase .settle1 (setDE true s)))

/-- Rule R205. -/
def execTxSettle1 (s : State) : Answer :=
  inPhase s .settle1 (.next (toPhase .write (wait s.params.settle s)))

/-- Rule R206: a failed write skips the completion wait (D17). -/
def execTxWrite (s : State) : Answer :=
  inPhase s .write <|
    match s.nextWrite with
    | .ok => .next (toPhase .complete (chanWrite s.headFrame s))
    | .fail _ => .next (toPhase (.deassert false) (chanWrite s.headFrame s))

/-- Rule R207: one query; on `false` the wait goes on, with no bound of its own (rule R323). -/
def execTxCompleteExact (s : State) : Answer :=
  inPhase s .complete <|
    if s.params.completion = .exact then
      match s.nextDone with
      | .done => .next (toPhase (.deassert true) (chanDone s))
      | .fail => .next (toPhase (.deassert false) (chanDone s))
      | .notYet => .next (chanDone s)
    else .fault .outOfPlace

/-- Rule R208: a failing flush fails the wait, with no sleep (D16). -/
def execTxCompleteFlushEstimate (s : State) : Answer :=
  inPhase s .complete <|
    if s.params.completion = .flushEstimate then
      match s.nextFlush with
      | .fail => .next (toPhase (.deassert false) (chanFlush s))
      | .ok =>
        if 0 < s.params.baud then .next (toPhase (.deassert true) (wait (flushEstimateWait s) (chanFlush s)))
        else .refused .baudNotPositive
    else .fault .outOfPlace

/-- Rule R209: this wait cannot fail. -/
def execTxCompleteEstimate (s : State) : Answer :=
  inPhase s .complete <|
    if s.params.completion = .estimate then
      if 0 < s.params.baud then .next (toPhase (.deassert true) (wait (estimateWait s) s))
      else .refused .baudNotPositive
    else .fault .outOfPlace

/-- Rule R210: on every path out of an attempt. -/
def execTxDeassert (s : State) : Answer :=
  match s.phase with
  | .deassert ok => .next (toPhase (.settle2 ok) (setDE false s))
  | _ => .fault .outOfPlace

/-- Rule R211: after a failure too. -/
def execTxSettle2 (s : State) : Answer :=
  match s.phase with
  | .settle2 ok => .next (toPhase (if ok then .commit else .fail) (wait s.params.settle s))
  | _ => .fault .outOfPlace

/-- Rule R212: the activity stamp is read after the second settle wait (D18), and the head frame is removed. -/
def execTxCommit (s : State) : Answer :=
  inPhase s .commit (.next (toPhase (.timeout .sent) (emit (traceTx s.params.trace .sent) (popTx (stamp s)))))

/-- Rule R213: the frame stays at the head, nothing else is recorded. -/
def execTxFail (s : State) : Answer :=
  inPhase s .fail (.next (toPhase (.timeout .failed) (emit (traceTx s.params.trace .failed) s)))

end Sys2Proof.Machine
end

