-- ==== Sys2Proof/Machine/Dispatch.lean ====
section
/-! DEFINITION. Machine/Dispatch.lean: one arm per row of the opcode table, each one direct call of its meaning. -/

namespace Sys2Proof.Machine

/-- The meaning of each unit of work. -/
def exec (i : Instr) (s : State) : Host.Outcome State Fault Refusal :=
  match i with
  -- WIRE: a byte class in one receiver state (rule R100)
  | .idleNul => Sys2Proof.Machine.execIdleNul s
  | .idleSoh => Sys2Proof.Machine.execIdleSoh s
  | .idleOther b => Sys2Proof.Machine.execIdleOther b s
  | .sohDstAccept dst => Sys2Proof.Machine.execSohDstAccept dst s
  | .sohDstReject dst => Sys2Proof.Machine.execSohDstReject dst s
  | .destSrc src => Sys2Proof.Machine.execDestSrc src s
  | .srcTid tid => Sys2Proof.Machine.execSrcTid tid s
  | .tidLenOk len => Sys2Proof.Machine.execTidLenOk len s
  | .tidLenZero => Sys2Proof.Machine.execTidLenZero s
  | .lenStx => Sys2Proof.Machine.execLenStx s
  | .lenOther b => Sys2Proof.Machine.execLenOther b s
  | .stxEncHigh h c => Sys2Proof.Machine.execStxEncHigh h c s
  | .stxEncLow c l => Sys2Proof.Machine.execStxEncLow c l s
  | .stxEtx => Sys2Proof.Machine.execStxEtx s
  | .stxOther b => Sys2Proof.Machine.execStxOther b s
  | .etxCrcMatch crc => Sys2Proof.Machine.execEtxCrcMatch crc s
  | .etxCrcMismatch crc => Sys2Proof.Machine.execEtxCrcMismatch crc s
  | .crcOkEot => Sys2Proof.Machine.execCrcOkEot s
  | .crcOkOther b => Sys2Proof.Machine.execCrcOkOther b s
  -- EVENT: the packet timeout (rule R185)
  | .rxTimeout => Sys2Proof.Machine.execRxTimeout s
  -- SYMBOL: control byte values and encoded-byte shapes (rules R92, R95, R130, R131)
  | .symNul => Sys2Proof.Machine.execSymNul s
  | .symSoh => Sys2Proof.Machine.execSymSoh s
  | .symStx => Sys2Proof.Machine.execSymStx s
  | .symEtx => Sys2Proof.Machine.execSymEtx s
  | .symEot => Sys2Proof.Machine.execSymEot s
  | .symLf => Sys2Proof.Machine.execSymLf s
  | .symEnc h c => Sys2Proof.Machine.execSymEnc h c s
  | .symEncHigh p => Sys2Proof.Machine.execSymEncHigh p s
  | .symEncLow p => Sys2Proof.Machine.execSymEncLow p s
  -- HOSTOP: host operations by 4-bit code (rule R103)
  | .construct addr settle baud completion => Sys2Proof.Machine.execConstruct addr settle baud completion s
  | .tick => Sys2Proof.Machine.execTick s
  | .enqueue dest payload tid => Sys2Proof.Machine.execEnqueue dest payload tid s
  | .pending => Sys2Proof.Machine.execPending s
  | .available => Sys2Proof.Machine.execAvailable s
  | .read => Sys2Proof.Machine.execRead s
  | .getAddr => Sys2Proof.Machine.execGetAddr s
  | .setAddr a => Sys2Proof.Machine.execSetAddr a s
  | .isBroadcast m => Sys2Proof.Machine.execIsBroadcast m s
  | .reply m payload override => Sys2Proof.Machine.execReply m payload override s
  | .unassignedAB x => Sys2Proof.Machine.execUnassignedAB x s
  | .unassignedCF x => Sys2Proof.Machine.execUnassignedCF x s
  -- PHASE: steps of a send attempt (rule R203)
  | .txGate => Sys2Proof.Machine.execTxGate s
  | .txAssert => Sys2Proof.Machine.execTxAssert s
  | .txSettle1 => Sys2Proof.Machine.execTxSettle1 s
  | .txWrite => Sys2Proof.Machine.execTxWrite s
  | .txCompleteExact => Sys2Proof.Machine.execTxCompleteExact s
  | .txCompleteFlushEstimate => Sys2Proof.Machine.execTxCompleteFlushEstimate s
  | .txCompleteEstimate => Sys2Proof.Machine.execTxCompleteEstimate s
  | .txDeassert => Sys2Proof.Machine.execTxDeassert s
  | .txSettle2 => Sys2Proof.Machine.execTxSettle2 s
  | .txCommit => Sys2Proof.Machine.execTxCommit s
  | .txFail => Sys2Proof.Machine.execTxFail s
  -- FUNCTION: pure functions (rules R120, R121, R132 to R134, R151, R153, R154)
  | .isValidNodeAddress a => Sys2Proof.Machine.execIsValidNodeAddress a s
  | .isValidSlaveAddress a => Sys2Proof.Machine.execIsValidSlaveAddress a s
  | .valid b => Sys2Proof.Machine.execValid b s
  | .decPair b1 b2 => Sys2Proof.Machine.execDecPair b1 b2 s
  | .encodeFrame dst src tid payload => Sys2Proof.Machine.execEncodeFrame dst src tid payload s
  | .crcInit b => Sys2Proof.Machine.execCrcInit b s
  | .crcFold d => Sys2Proof.Machine.execCrcFold d s
  | .crcCheck b => Sys2Proof.Machine.execCrcCheck b s

end Sys2Proof.Machine
end

