-- ==== Sys2Proof/Machine/Fetch.lean ====
section
/-! DEFINITION. Machine/Fetch.lean: what the machine does next (rules R9, R235, R236, R299): between host operations it
takes the next command; in the drain it takes the next received byte; in every other phase the phase register selects
the row. -/

namespace Sys2Proof.Machine

/-- The next unit of work: a word in its context, with the state after the word has been taken; or nothing to do; or
a refusal. -/
inductive Fetched where
  | work (x : Context) (w : EncodedWord) (s : State)
  | passive
  | refuse (r : Refusal)

/-- The row the phase register selects. -/
def fetchPhase (s : State) : Fetched := .work (.sequencer s.phase s.params.completion) .empty s

/-- The command port (rule R103): without a command the engine "is passive and holds its state" (rule R299). -/
def fetchCommand (s : State) : Fetched :=
  match s.commands with
  | [] => .passive
  | c :: rest => .work .port (.command c) { s with commands := rest }

/-- What comes after the point where the count reads zero arrives later: the mark is used up by this drain. -/
def dropSilence (s : State) : State :=
  match s.chanRx with
  | .silence :: rest => { s with chanRx := rest }
  | _ => s

/-- `RxDrain()` (rule R236): while `ChanAvail() > 0`, `ChanRead()` takes and consumes one byte; a count of zero, or a
read that answers none (D24), ends the drain, and the transmit step follows. -/
def fetchWire (s : State) : Fetched :=
  if chanAvail s = 0 then fetchPhase (dropSilence s)
  else
    match s.chanRx with
    | .byte b :: rest => .work (.wire (wireContext s)) (.byte b) { s with chanRx := rest }
    | .failure :: _ => .refuse .receiveFailure
    | _ :: rest => fetchPhase { s with chanRx := rest }
    | [] => fetchPhase s

/-- The next unit of work. -/
def fetch (s : State) : Fetched :=
  match s.phase with
  | .idle => fetchCommand s
  | .drain => fetchWire s
  | .assertDe => fetchPhase s
  | .settle1 => fetchPhase s
  | .write => fetchPhase s
  | .complete => fetchPhase s
  | .deassert _ => fetchPhase s
  | .settle2 _ => fetchPhase s
  | .commit => fetchPhase s
  | .fail => fetchPhase s
  | .timeout _ => fetchPhase s

/-- Put a command in front of the command port, between host operations. -/
def placeCommand (c : Command) (s : State) : State :=
  { s with phase := .idle, commands := c :: s.commands }

/-- Put a byte in front of the channel's receive stream, inside a drain. -/
def placeByte (b : Byte) (s : State) : State :=
  { s with phase := .drain, chanRx := .byte b :: s.chanRx }

/-- The table's word `w` placed where `step` takes its next unit of work (log entry 3), the same reading of the number
as `decodeTableWord`. -/
def placeTableWord (s : State) (nbits w : Nat) : State :=
  if nbits = 0 ∨ 8 < nbits ∨ 256 ≤ w then s
  else if w < 16 then placeCommand { code := BitVec.ofNat 4 w } s
  else placeByte (BitVec.ofNat 8 w) s

end Sys2Proof.Machine
end

