-- ==== Sys2Proof/Machine/Step.lean ====
section
/-! DEFINITION. Machine/Step.lean: one step: take the next unit of work, decode it in its context, run it. -/

namespace Sys2Proof.Machine

/-- One step. With nothing to do the machine is passive and holds its state (rule R299). -/
def step (s : State) : Host.Outcome State Fault Refusal :=
  match fetch s with
  | .passive => .next s
  | .refuse r => .refused r
  | .work x w s' =>
    match decode x w with
    | .instr i => exec i s'
    | .reject r => .refused (.notDecodable r)

/-- The table's word stored where `step` takes its next unit of work. -/
def State.withFetchWord (s : State) (nbits w : Nat) : State := placeTableWord s nbits w

end Sys2Proof.Machine
end

