-- ==== Sys2Proof/Safety.lean ====
section
/-! DEFINITION. Safety.lean: the terms claims use: the invariant that every step keeps, the states a byte step or a
clock reading leaves, and the relation of two states that differ only in reception fields that hold no value. -/

namespace Sys2Proof

/-- The phases between ASSERT and DEASSERT, in which the transceiver drives the bus (rules R204, R210). -/
def Phase.driving : Phase → Bool
  | .settle1 => true
  | .write => true
  | .complete => true
  | .deassert _ => true
  | _ => false

/-- The phases of a send attempt, from ASSERT to COMMIT or failure (rule R203). -/
def Phase.sending : Phase → Bool
  | .assertDe => true
  | .settle1 => true
  | .write => true
  | .complete => true
  | .deassert _ => true
  | .settle2 _ => true
  | .commit => true
  | .fail => true
  | _ => false

/-- What a reception holds in each state: rule R28 b and d, and of c and e the part that the stored payload can express:
the accumulator is the checksum of the stored bytes while none has been left out (c; bytes beyond the declared length are
folded and not stored), and from ETX on (the accumulator side of e; the checksum byte itself is not kept). Rule R28 a is
not here: it speaks of the address at an earlier time, which the state does not keep. -/
def Reception.consistent (st : RxState) (r : Reception) : Prop :=
  (5 ≤ st.number → r.len ≠ 0#8) ∧
  (st = .messageLenReceived →
    r.first = true ∧ r.count = 0 ∧ r.payload = [] ∧ r.crc = checksumInit r.dst r.src r.len) ∧
  (st.number ≤ 4 → r.first = true ∧ r.count = 0 ∧ r.payload = []) ∧
  (st = .stxReceived → r.count ≤ 256 ∧ r.payload.length = min r.count r.len.toNat ∧
    (r.count ≤ r.len.toNat → r.crc = checksum r.dst r.src r.len r.payload) ∧
    (r.first = false → r.half &&& 0x0F#8 = 0#8)) ∧
  (7 ≤ st.number → r.count = r.len.toNat ∧ r.payload.length = r.len.toNat ∧
    r.crc = checksum r.dst r.src r.len r.payload)

/-- A message the engine can have produced (rule R32). -/
def Message.consistent (m : Message) : Prop :=
  m.len.toNat = m.payload.length ∧ 1 ≤ m.payload.length ∧ m.payload.length ≤ 255

/-- Two receptions agree on every field that a rule has written by state `st` (rules R24, R25). -/
def Reception.agree (st : RxState) (r r' : Reception) : Prop :=
  r.start = r'.start ∧ r.first = r'.first ∧ r.count = r'.count ∧ r.payload = r'.payload ∧
  (2 ≤ st.number → r.dst = r'.dst) ∧ (3 ≤ st.number → r.src = r'.src) ∧ (4 ≤ st.number → r.tid = r'.tid) ∧
  (5 ≤ st.number → r.len = r'.len ∧ r.crc = r'.crc) ∧
  (st = .stxReceived → r.first = false → r.half = r'.half)

end Sys2Proof

namespace Sys2Proof.Machine

/-! ## What one clock reading changes -/

/-- `s` after a primitive at which the clock came to read `n`. -/
def State.clockSeen (s : State) (n : Nat) : State :=
  { s with clock := n, advances := s.advances.tail, freeIndex := freeIndexAfter s.advances s.freeIndex }

/-- `s` after a byte step's clock reading `n`, stored as the last bus activity (rule R160). -/
def State.byteSeen (s : State) (n : Nat) : State := { s.clockSeen n with lastBusActivity := n }

/-- `s` after a byte that ended in a discard (rules R160, R280): the stamp, no reception, IDLE, the trace. -/
def State.dropped (s : State) (n : Nat) (c : DiscardCause) : State :=
  { s.byteSeen n with
    rx := none
    rxState := .idle
    out := s.out ++ (traceDiscard s.params.trace c s.rxState ++ traceTransition s.params.trace s.rxState .idle) }

/-- `s` after a byte that moved the receiver from its state to `st` (rules R22, R160), with the reception `r`. -/
def State.advanced (s : State) (n : Nat) (st : RxState) (r : Reception) : State :=
  { s.byteSeen n with
    rx := some r
    rxState := st
    out := s.out ++ traceTransition s.params.trace s.rxState st }

/-! ## What a whole send attempt shows and leaves (rule R203) -/

/-- What leaves the block in one attempt at sending `f`, in order: the output rises, a settle wait, the frame in one write,
what the completion wait shows, the output falls, a settle wait; then the trace port's TX event (log entry 20). -/
def State.attemptShows (s : State) (f : Frame) (shown : List Output) (r : TxResult) : List Output :=
  [.drive true, .wait s.params.settle, .write f] ++ shown ++ [.drive false, .wait s.params.settle]
    ++ traceTx s.params.trace r

/-- `t` is `s` after a successful attempt at sending `f` (rule R212): the whole frame is on the wire, the queue is `fs`,
the activity is stamped, and at least two settle times and the `waited` milliseconds of the completion wait have passed. -/
def State.attemptSent (s t : State) (f : Frame) (fs : List Frame) (shown : List Output) (waited : Nat) : Prop :=
  s.clock + s.params.settle.floorMs + waited + s.params.settle.floorMs ≤ t.clock ∧
  t = { s with
    de := false
    phase := .timeout .sent
    txFifo := fs
    chanTx := s.chanTx ++ f
    lastBusActivity := t.clock
    out := s.out ++ s.attemptShows f shown .sent
    clock := t.clock
    advances := t.advances
    writeAnswers := s.writeAnswers.tail
    doneAnswers := t.doneAnswers
    flushAnswers := t.flushAnswers
    freeIndex := t.freeIndex }

/-- `t` is `s` after a failed attempt at sending `f` (rule R213): the bytes `onWire` have reached the wire, two settle times
have passed, and the queue, the activity stamp and the receiver are as before. -/
def State.attemptFailed (s t : State) (f : Frame) (onWire : List Byte) (shown : List Output) : Prop :=
  s.clock + s.params.settle.floorMs + s.params.settle.floorMs ≤ t.clock ∧
  t = { s with
    de := false
    phase := .timeout .failed
    chanTx := s.chanTx ++ onWire
    out := s.out ++ s.attemptShows f shown .failed
    clock := t.clock
    advances := t.advances
    writeAnswers := s.writeAnswers.tail
    doneAnswers := t.doneAnswers
    flushAnswers := t.flushAnswers
    freeIndex := t.freeIndex }

/-! ## The invariant -/

/-- A frame the encoder can have produced (rules R33, R134). -/
def isEncodedFrame (f : Frame) : Prop :=
  ∃ dst src tid payload, 1 ≤ payload.length ∧ payload.length ≤ 255 ∧ f = frameBytes dst src tid payload

/-- A FIFO within its depth (rule R62). -/
def withinDepth (depth : Option Nat) (n : Nat) : Prop := ∀ d, depth = some d → n ≤ d

/-- What holds of the machine before and after every step: the address is never broadcast (rule R21), a reception is
present exactly outside IDLE (rule R23), the contents of receptions (`Reception.consistent`), messages and frames (rules
R32, R33), the
timestamps lie in the past (rule R158), the parameters passed CONSTRUCT's checks (rules R230, R231, R215), the FIFOs
respect their depths (rule R62), and the direction-control output is high exactly in the phases between ASSERT and
DEASSERT (rule R36), in which there is a frame to send. -/
structure State.Inv (s : State) : Prop where
  addr : isValidNodeAddr (s.ownAddr.toNat : Int) = true
  reception : s.rx.isSome = true ↔ s.rxState ≠ .idle
  contents : ∀ r, s.rx = some r → r.consistent s.rxState ∧ r.start ≤ s.clock
  activity : s.lastBusActivity ≤ s.clock
  inbound : ∀ m ∈ s.rxFifo, m.consistent
  outbound : ∀ f ∈ s.txFifo, isEncodedFrame f
  depths : withinDepth s.params.rxqDepth s.rxFifo.length ∧ withinDepth s.params.txqDepth s.txFifo.length
  settle : s.params.settle.positive = true
  baud : baudUsable s.params.completion s.params.baud = true
  direction : s.de = s.phase.driving
  frame : s.phase.sending = true → s.txFifo ≠ []

/-! ## Reception fields that hold no value -/

/-- Two states that differ at most in reception fields no rule has written yet (D23). -/
def State.sameWritten (s s' : State) : Prop :=
  s' = { s with rx := s'.rx } ∧
  match s.rx, s'.rx with
  | none, none => True
  | some r, some r' => r.agree s.rxState r'
  | _, _ => False

/-- Two states that differ at most in whether the trace port exists and in what has left the block. -/
def State.sameButTrace (s s' : State) : Prop :=
  s' = { s with params := { s.params with trace := s'.params.trace }, out := s'.out }

/-- Two outcomes of the same kind: the same stop, or next states in the relation. -/
def outcomesAgree (rel : State → State → Prop) : Answer → Answer → Prop
  | .next t, .next t' => rel t t'
  | .fault f, .fault f' => f = f'
  | .refused r, .refused r' => r = r'
  | _, _ => False

end Sys2Proof.Machine
end

