-- ==== Sys2Proof/Certificates/Slice0/Obligations.lean ====
section
/-! DEFINITION. Certificates/Slice0/Obligations.lean: the statements for the provers. Each docstring names the rules of
the spec it comes from. A next state is written out as a record over the state before, so that every field not named
is unchanged: that is the frame. `n` is always the clock's reading at the primitive the rule names. The fields `advances`,
`freeIndex` and the answer lists are the model's scripted environment (log entries 5 and 18); the events that a next
state's `out` holds beside the spec's outputs, and the TRANSITION and TX trace events in it, are the model's (log entry
20); that one TICK is spread over several steps is the model's (log entry 1). -/

open Sys2Proof Sys2Proof.Machine

/-! ## Encoding -/

/-- Words written out from the tables of rules R92, R94, R96, R100 and R103 decode to the rows they stand for. -/
def Obligations.WrittenOutWordsDecode : Prop :=
  decode (.wire ⟨.idle, 5#8, true, 0#8⟩) (.byte 0b00000000#8) = .instr .idleNul ∧
  decode (.wire ⟨.idle, 5#8, true, 0#8⟩) (.byte 0b00000001#8) = .instr .idleSoh ∧
  decode (.wire ⟨.idle, 5#8, true, 0#8⟩) (.byte 0b00001010#8) = .instr (.idleOther 0x0A#8) ∧
  decode (.wire ⟨.sohReceived, 5#8, true, 0#8⟩) (.byte 0x05#8) = .instr (.sohDstAccept 5#8) ∧
  decode (.wire ⟨.sohReceived, 5#8, true, 0#8⟩) (.byte 0xFF#8) = .instr (.sohDstAccept 255#8) ∧
  decode (.wire ⟨.sohReceived, 5#8, true, 0#8⟩) (.byte 0x01#8) = .instr (.sohDstReject 1#8) ∧
  decode (.wire ⟨.stxReceived, 5#8, true, 0#8⟩) (.byte 0x4B#8) = .instr (.stxEncHigh 0x4#4 0xB#4) ∧
  decode (.wire ⟨.stxReceived, 5#8, false, 0#8⟩) (.byte 0xE1#8) = .instr (.stxEncLow 0xE#4 0x1#4) ∧
  decode (.wire ⟨.stxReceived, 5#8, false, 0#8⟩) (.byte 0x03#8) = .instr .stxEtx ∧
  decode (.wire ⟨.stxReceived, 5#8, false, 0#8⟩) (.byte 0x41#8) = .instr (.stxOther 0x41#8) ∧
  decode (.wire ⟨.etxReceived, 5#8, true, 0x45#8⟩) (.byte 0x45#8) = .instr (.etxCrcMatch 0x45#8) ∧
  decode (.wire ⟨.crcOk, 5#8, true, 0x45#8⟩) (.byte 0x04#8) = .instr .crcOkEot ∧
  decode .symbol (.byte 0xD2#8) = .instr (.symEnc 0xD#4 0x2#4) ∧
  decode .port (.command { code := 0b0001#4 }) = .instr .tick ∧
  decode .port (.command { code := 0b0111#4, addr := 9#8 }) = .instr (.setAddr 9#8) ∧
  decode .port (.command { code := 0b1011#4 }) = .instr (.unassignedAB 1#1) ∧
  decode .port (.command { code := 0b1110#4 }) = .instr (.unassignedCF 2#2) ∧
  decode (.sequencer .complete .flushEstimate) .empty = .instr .txCompleteFlushEstimate

/-- Decode and encode agree on all rows: in every context that selects a well-formed row, the row's own word decodes to
the row, with every operand (rules R92 to R96, R100, R103, R106). -/
def Obligations.SelectedWordDecodesToItsRow : Prop :=
  ∀ (i : Instr) (x : Context), x.selects i = true → i.wellFormed = true → decode x (encode i) = .instr i

/-- Whatever a word decodes to is well-formed and is the row its context selects; a wire byte is kept whole in the row it
decodes to (rules R99, R100, R106). -/
def Obligations.DecodedRowIsSelectedAndKeepsItsByte : Prop :=
  (∀ (x : Context) (w : EncodedWord) (i : Instr), decode x w = .instr i → x.selects i = true ∧ i.wellFormed = true) ∧
  (∀ (k : WireContext) (b : Byte), encode (decodeWire k b) = .byte b)

/-- Rule R181: in every receiver state every byte has exactly one row, and the receiver takes it: it answers a next state
and gives the host no answer. -/
def Obligations.EveryByteHasExactlyOneRow : Prop :=
  ∀ (s : State) (b : Byte), (s.rxState ≠ .idle → s.rx.isSome = true) →
    (∃ i : Instr, ((Context.wire (wireContext s)).selects i = true ∧ i.wellFormed = true ∧ encode i = .byte b) ∧
      (∀ j : Instr, (Context.wire (wireContext s)).selects j = true ∧ j.wellFormed = true ∧ encode j = .byte b →
        j = i) ∧
      ∃ t, exec i s = .next t ∧ t.result = s.result)

/-- The byte step that the symbol rows run is the row that the byte decodes to (rules R100, R160). -/
def Obligations.ByteStepRunsTheDecodedRow : Prop :=
  ∀ (s : State) (b : Byte), rxByte b s = exec (decodeWire (wireContext s) b) s

/-! ## Codec and checksum -/

/-- Rules R96, R97: the valid encoded bytes are exactly the 16 listed; each is the high form and the low form of some
payload byte; no control byte is one. Rule R99: each of the eight classes has the number of bytes stated there. -/
def Obligations.ValidEncodedBytes : Prop :=
  ((List.range 256).filter (fun n => validByte (BitVec.ofNat 8 n)) =
    [0x0F, 0x1E, 0x2D, 0x3C, 0x4B, 0x5A, 0x69, 0x78, 0x87, 0x96, 0xA5, 0xB4, 0xC3, 0xD2, 0xE1, 0xF0]) ∧
  (∀ b : Byte, validByte b = true ↔ ∃ p, encHigh p = b) ∧
  (∀ b : Byte, validByte b = true ↔ ∃ p, encLow p = b) ∧
  validByte 0x00#8 = false ∧ validByte 0x01#8 = false ∧ validByte 0x02#8 = false ∧
  validByte 0x03#8 = false ∧ validByte 0x04#8 = false ∧ validByte 0x0A#8 = false ∧
  (∀ c : ByteClass, ((List.range 256).filter (fun n => byteClass (BitVec.ofNat 8 n) == c)).length =
    match c with
    | .nul => 1
    | .soh => 1
    | .stx => 1
    | .etx => 1
    | .eot => 1
    | .lf => 1
    | .enc => 16
    | .other => 234)

/-- Rules R94, R98: the two wire bytes of a payload byte are valid and decode to it. -/
def Obligations.EncodedPairDecodes : Prop :=
  ∀ p : Byte, validByte (encHigh p) = true ∧ validByte (encLow p) = true ∧ decodePair (encHigh p) (encLow p) = p

/-- Rule R91: the length of a transmitted frame and the token at each index. -/
def Obligations.FrameLayout : Prop :=
  ∀ (dst src tid : Byte) (payload : List Byte), 1 ≤ payload.length → payload.length ≤ 255 →
    (frameBytes dst src tid payload).length = 14 + 2 * payload.length ∧
    (∀ k, k < 3 → (frameBytes dst src tid payload)[k]? = some 0x0A#8) ∧
    (frameBytes dst src tid payload)[3]? = some 0x01#8 ∧
    (frameBytes dst src tid payload)[4]? = some dst ∧
    (frameBytes dst src tid payload)[5]? = some src ∧
    (frameBytes dst src tid payload)[6]? = some tid ∧
    (frameBytes dst src tid payload)[7]? = some (BitVec.ofNat 8 payload.length) ∧
    (frameBytes dst src tid payload)[8]? = some 0x02#8 ∧
    (∀ k p, payload[k]? = some p →
      (frameBytes dst src tid payload)[9 + 2 * k]? = some (encHigh p) ∧
      (frameBytes dst src tid payload)[10 + 2 * k]? = some (encLow p)) ∧
    (frameBytes dst src tid payload)[9 + 2 * payload.length]? = some 0x03#8 ∧
    (frameBytes dst src tid payload)[10 + 2 * payload.length]? =
      some (payload.foldl (fun c p => c ^^^ p) (dst ^^^ src ^^^ BitVec.ofNat 8 payload.length)) ∧
    (frameBytes dst src tid payload)[11 + 2 * payload.length]? = some 0x04#8 ∧
    (frameBytes dst src tid payload)[12 + 2 * payload.length]? = some 0x0A#8 ∧
    (frameBytes dst src tid payload)[13 + 2 * payload.length]? = some 0x0A#8

/-- Rule R156: the order in which the payload bytes are folded does not matter to the checksum. -/
def Obligations.ChecksumIgnoresPayloadOrder : Prop :=
  ∀ (dst src len : Byte) (p q : List Byte), p.Perm q → checksum dst src len p = checksum dst src len q

/-- Rule R155: two sets of covered bytes give the same checksum exactly when, in each bit position, they differ in an
even number of bytes. -/
def Obligations.ChecksumDetectsOddDifferences : Prop :=
  ∀ (d s l d' s' l' : Byte) (p p' : List Byte), p.length = p'.length →
    (checksum d s l p = checksum d' s' l' p' ↔
      ∀ k, k < 8 → Even (((d :: s :: l :: p).zip (d' :: s' :: l' :: p')).countP
        (fun x => x.1.getLsbD k != x.2.getLsbD k)))

/-- Rules R120, R121, R130 to R134: the rows of the pure functions and of the two encoder shapes answer the value their
formulas give, and change nothing else, in every state. That a function row's value goes to `result`, and that `dec_pair`
and `encode_frame` answer their formula outside the domains of rules R133 (two valid bytes) and R134 (1 to 255 payload
bytes) as well, is the model's choice (log entry 23); that ENC_HIGH and ENC_LOW answer a byte is its reading (log entry
22). -/
def Obligations.PureFunctionRowsAnswer : Prop :=
  ∀ s : State,
    (∀ a : Int, exec (.isValidNodeAddress a) s =
      .next { s with result := .flag (decide (0 ≤ a) && decide (a ≤ 254)) }) ∧
    (∀ a : Int, exec (.isValidSlaveAddress a) s =
      .next { s with result := .flag (decide (0 ≤ a) && decide (a ≤ 254) && decide (a ≠ 0)) }) ∧
    (∀ p : Byte, exec (.symEncHigh p) s =
      .next { s with result := .byte ((p &&& 0xF0#8) ||| ((~~~p >>> 4) &&& 0x0F#8)) }) ∧
    (∀ p : Byte, exec (.symEncLow p) s =
      .next { s with result := .byte ((~~~p <<< 4) &&& 0xF0#8 ||| (p &&& 0x0F#8)) }) ∧
    (∀ b : Byte, exec (.valid b) s = .next { s with result := .flag (~~~((b <<< 4) ||| (b >>> 4)) == b) }) ∧
    (∀ b1 b2 : Byte, exec (.decPair b1 b2) s =
      .next { s with result := .byte ((b1 &&& 0xF0#8) ||| (b2 &&& 0x0F#8)) }) ∧
    (∀ (dst src tid : Byte) (payload : List Byte), exec (.encodeFrame dst src tid payload) s =
      .next { s with result := .bytes (
        [0x0A#8, 0x0A#8, 0x0A#8, 0x01#8, dst, src, tid, BitVec.ofNat 8 payload.length, 0x02#8]
          ++ payload.flatMap (fun p => [encHigh p, encLow p])
          ++ [0x03#8, payload.foldl (fun c p => c ^^^ p) (dst ^^^ src ^^^ BitVec.ofNat 8 payload.length), 0x04#8,
            0x0A#8, 0x0A#8]) })

/-- Rules R151, R153, R154: in the state in which its rule performs it, each accumulator row sets, folds or compares
`rx.crc`, and changes nothing else of the reception. That these steps run as rows of their own and put their value in
`result` is the model's choice (log entry 23); that they are out of place in every other state is its reading (log entry
24). -/
def Obligations.AccumulatorRows : Prop :=
  ∀ (s : State) (r : Reception) (b : Byte), s.rx = some r →
    (s.rxState = .transactionIdReceived → exec (.crcInit b) s =
      .next { s with rx := some { r with crc := r.dst ^^^ r.src ^^^ b }, result := .byte (r.dst ^^^ r.src ^^^ b) }) ∧
    (s.rxState = .stxReceived → exec (.crcFold b) s =
      .next { s with rx := some { r with crc := r.crc ^^^ b }, result := .byte (r.crc ^^^ b) }) ∧
    (s.rxState = .etxReceived → exec (.crcCheck b) s = .next { s with result := .flag (b == r.crc) }) ∧
    (s.rxState ≠ .transactionIdReceived → exec (.crcInit b) s = .fault .outOfPlace) ∧
    (s.rxState ≠ .stxReceived → exec (.crcFold b) s = .fault .outOfPlace) ∧
    (s.rxState ≠ .etxReceived → exec (.crcCheck b) s = .fault .outOfPlace)

/-! ## Host operations -/

/-- Rules R50, R232: a CONSTRUCT whose arguments pass both checks leaves the reset state with its arguments, reads the
clock once, and touches neither buffer of the channel. That it emits no trace event, even on an engine in mid-reception,
is the model's choice (log entry 20). -/
def Obligations.ConstructBuildsAnEngine : Prop :=
  ∀ (s : State) (addr : Byte) (settle : Duration) (baud : Int) (completion : Completion),
    s.phase = .idle → addr.toNat ≤ 254 → 0 < settle.num → 0 < settle.den → (completion ≠ .exact → 0 < baud) →
    ∃ n, s.clock ≤ n ∧ exec (.construct addr settle baud completion) s =
      .next { s.clockSeen n with
        built := true
        ownAddr := addr
        rxState := .idle
        rx := none
        lastBusActivity := n
        rxFifo := []
        txFifo := []
        de := false
        params := { s.params with addr := addr, settle := settle, baud := baud, completion := completion }
        result := .status .ok }

/-- Rules R230, R231: an address above 254 is `E_ADDR`; with a good address a settle time that is not strictly positive is
`E_SETTLE`; neither changes anything but the answer. An estimate mode with a `baud` not positive is refused. -/
def Obligations.ConstructRejectsBadArguments : Prop :=
  ∀ (s : State) (addr : Byte) (settle : Duration) (baud : Int) (completion : Completion), s.phase = .idle →
    (254 < addr.toNat → exec (.construct addr settle baud completion) s = .next { s with result := .status .eAddr }) ∧
    (addr.toNat ≤ 254 → settle.num ≤ 0 →
      exec (.construct addr settle baud completion) s = .next { s with result := .status .eSettle }) ∧
    (addr.toNat ≤ 254 → 0 < settle.num → 0 < settle.den → completion ≠ .exact → baud ≤ 0 →
      exec (.construct addr settle baud completion) s = .refused .baudNotPositive)

/-- Rule R235: TICK's own effect is that the receive drain begins; nothing else changes yet. What the drain, the transmit
step and the timeout check then do, and that TICK answers, is `TickRunsToItsEnd`. -/
def Obligations.TickBeginsWithTheDrain : Prop :=
  ∀ s : State, s.phase = .idle → s.built = true → exec .tick s = .next { s with phase := .drain }

/-- Rule R240: with a payload of 1 to 255 bytes and room in the FIFO, ENQUEUE appends the encoded frame, whose source byte
is the address as it is now; `dest` and `tid` are not validated. Any other payload length is `E_LEN`. -/
def Obligations.EnqueueAppendsTheFrame : Prop :=
  ∀ (s : State) (dest : Byte) (payload : List Byte) (tid : Byte), s.phase = .idle → s.built = true →
    (1 ≤ payload.length → payload.length ≤ 255 → (∀ d, s.params.txqDepth = some d → s.txFifo.length < d) →
      exec (.enqueue dest payload tid) s =
        .next { s with txFifo := s.txFifo ++ [frameBytes dest s.ownAddr tid payload], result := .status .ok }) ∧
    (payload.length = 0 ∨ 255 < payload.length →
      exec (.enqueue dest payload tid) s = .next { s with result := .status .eLen })

/-- Rules R241, R62: an empty payload or one above 255 bytes is `E_LEN`; a full finite FIFO is `E_QUEUE_FULL`; neither
changes anything but the answer. -/
def Obligations.EnqueueRejects : Prop :=
  ∀ (s : State) (dest : Byte) (payload : List Byte) (tid : Byte), s.phase = .idle → s.built = true →
    (payload.length = 0 ∨ 255 < payload.length →
      exec (.enqueue dest payload tid) s = .next { s with result := .status .eLen }) ∧
    (∀ d, 1 ≤ payload.length → payload.length ≤ 255 → s.params.txqDepth = some d → d ≤ s.txFifo.length →
      exec (.enqueue dest payload tid) s = .next { s with result := .status .eQueueFull })

/-- Rules R245, R246, R250, R255: the operations that only answer. -/
def Obligations.PureReadsAnswer : Prop :=
  ∀ s : State, s.phase = .idle → s.built = true →
    exec .pending s = .next { s with result := .count s.txFifo.length } ∧
    exec .available s = .next { s with result := .count s.rxFifo.length } ∧
    exec .getAddr s = .next { s with result := .address s.ownAddr } ∧
    ∀ m : Message, exec (.isBroadcast m) s = .next { s with result := .flag (m.dst == 255#8) }

/-- Rules R247, R248: READ removes and returns the oldest message; on an empty FIFO it is `E_EMPTY` and changes nothing. -/
def Obligations.ReadTakesTheOldest : Prop :=
  ∀ s : State, s.phase = .idle → s.built = true →
    (∀ m rest, s.rxFifo = m :: rest → exec .read s = .next { s with rxFifo := rest, result := .message m }) ∧
    (s.rxFifo = [] → exec .read s = .next { s with result := .status .eEmpty })

/-- Rules R252, R79, R80: SET_ADDR replaces the address at once and changes nothing else, in particular not the reception
under way nor the queued frames; address 255 is `E_ADDR`. -/
def Obligations.SetAddrReplacesTheAddress : Prop :=
  ∀ (s : State) (a : Byte), s.phase = .idle → s.built = true →
    (a.toNat ≤ 254 → exec (.setAddr a) s = .next { s with ownAddr := a, result := .status .ok }) ∧
    (254 < a.toNat → exec (.setAddr a) s = .next { s with result := .status .eAddr })

/-- Rule R256: REPLY to a broadcast without override is refused with its error; otherwise it is ENQUEUE to the message's
source with the message's transaction id, with all of ENQUEUE's failures. -/
def Obligations.ReplyEnqueuesToTheSource : Prop :=
  ∀ (s : State) (m : Message) (payload : List Byte) (override : Bool), s.phase = .idle → s.built = true →
    (m.dst = 255#8 → override = false →
      exec (.reply m payload override) s = .next { s with result := .status .eBroadcastReply }) ∧
    (m.dst ≠ 255#8 ∨ override = true →
      exec (.reply m payload override) s = exec (.enqueue m.src payload m.tid) s ∧
      (1 ≤ payload.length → payload.length ≤ 255 → (∀ d, s.params.txqDepth = some d → s.txFifo.length < d) →
        exec (.reply m payload override) s =
          .next { s with txFifo := s.txFifo ++ [frameBytes m.src s.ownAddr m.tid payload], result := .status .ok }))

/-- Rule R103: every operation code from 0xA to 0xF decodes to an unassigned row, which answers `E_BAD_OP` and changes
nothing else, with or without an engine. -/
def Obligations.UnassignedCodesAreBadOps : Prop :=
  ∀ s : State, s.phase = .idle →
    (∀ x : BitVec 1, exec (.unassignedAB x) s = .next { s with result := .status .eBadOp }) ∧
    (∀ x : BitVec 2, exec (.unassignedCF x) s = .next { s with result := .status .eBadOp }) ∧
    (∀ c : Command, 10 ≤ c.code.toNat → exec (decodeCommand c) s = .next { s with result := .status .eBadOp })

/-- Rules R18, R320: a host operation while a TICK is under way has no meaning, whichever it is; without an engine only
CONSTRUCT and the unassigned codes have one. That IS_BROADCAST and REPLY need an engine too, and that an unassigned code
is refused during a TICK although rule R103 gives it E_BAD_OP, is the model's deduction (log entry 17). -/
def Obligations.MisplacedHostOperationsHaveNoMeaning : Prop :=
  ∀ (s : State) (c : Command),
    (s.phase ≠ .idle → exec (decodeCommand c) s = .refused .overlappingOperations) ∧
    (s.phase = .idle → s.built = false → 1 ≤ c.code.toNat → c.code.toNat ≤ 9 →
      exec (decodeCommand c) s = .refused .noEngine)

/-! ## The receiver -/

/-- Rules R161, R162, R163: in IDLE a NUL leaves everything but the clock; an SOH creates a reception started at its own
clock reading; any other byte only stamps the activity. The stamp is rule R160's, the reading D8 the spec marks as its own;
the TRANSITION event is the model's choice (log entry 20). -/
def Obligations.IdleRows : Prop :=
  ∀ s : State, s.rxState = .idle →
    (∃ n, s.clock ≤ n ∧ exec .idleNul s = .next (s.clockSeen n)) ∧
    (∃ n r m, s.clock ≤ n ∧ r.start = n ∧ r.first = true ∧ r.count = 0 ∧ r.payload = [] ∧
      exec .idleSoh s = .next { s.advanced n .sohReceived r with freeIndex := m }) ∧
    (∀ b : Byte, b ≠ 0x00#8 → b ≠ 0x01#8 → ∃ n, s.clock ≤ n ∧ exec (.idleOther b) s = .next (s.byteSeen n))

/-- Rules R164, R175: the destination byte is accepted exactly when it is the node's address or 255, and is kept as
received; any other byte discards with ADDR_MISMATCH. The stamp is rule R160's (D8), the TRANSITION event the model's (log
entry 20). -/
def Obligations.DestinationByteRows : Prop :=
  ∀ (s : State) (r : Reception) (b : Byte), s.rxState = .sohReceived → s.rx = some r →
    (b = s.ownAddr ∨ b = 0xFF#8 → ∃ n, s.clock ≤ n ∧ exec (.sohDstAccept b) s =
      .next (s.advanced n .destAddressReceived { r with dst := b })) ∧
    (b ≠ s.ownAddr → b ≠ 0xFF#8 → ∃ n, s.clock ≤ n ∧ exec (.sohDstReject b) s = .next (s.dropped n .addrMismatch))

/-- Rules R165, R166: the source byte and the transaction id are stored, whatever their value, and nothing else of the
reception changes. The stamp is rule R160's (D8), the TRANSITION event the model's (log entry 20). -/
def Obligations.SourceAndTransactionIdRows : Prop :=
  ∀ (s : State) (r : Reception) (b : Byte), s.rx = some r →
    (s.rxState = .destAddressReceived → ∃ n, s.clock ≤ n ∧ exec (.destSrc b) s =
      .next (s.advanced n .srcAddressReceived { r with src := b })) ∧
    (s.rxState = .srcAddressReceived → ∃ n, s.clock ≤ n ∧ exec (.srcTid b) s =
      .next (s.advanced n .transactionIdReceived { r with tid := b }))

/-- Rules R167, R168, R151: a length of 1 to 255 is kept and starts the checksum from the destination, the source and the
length; a zero discards with BAD_LENGTH. The stamp is rule R160's (D8), the TRANSITION event the model's (log entry
20). -/
def Obligations.LengthByteRows : Prop :=
  ∀ (s : State) (r : Reception), s.rxState = .transactionIdReceived → s.rx = some r →
    (∀ b : Byte, b ≠ 0#8 → ∃ n, s.clock ≤ n ∧ exec (.tidLenOk b) s =
      .next (s.advanced n .messageLenReceived { r with len := b, crc := r.dst ^^^ r.src ^^^ b })) ∧
    (∃ n, s.clock ≤ n ∧ exec .tidLenZero s = .next (s.dropped n .badLength))

/-- Rules R169, R180: STX opens the body and changes no field of the reception; any other byte discards with BAD_STX.
The stamp is rule R160's (D8), the TRANSITION event the model's (log entry 20). -/
def Obligations.StartOfBodyRows : Prop :=
  ∀ (s : State) (r : Reception), s.rxState = .messageLenReceived → s.rx = some r →
    (∃ n, s.clock ≤ n ∧ exec .lenStx s = .next (s.advanced n .stxReceived r)) ∧
    (∀ b : Byte, b ≠ 0x02#8 → ∃ n, s.clock ≤ n ∧ exec (.lenOther b) s = .next (s.dropped n .badStx))

/-- Rules R170, R171, R172: a valid encoded byte is taken as the high nibble while the first-nibble flag is set; otherwise
it completes a byte, which is folded into the checksum, counted up to 256, and stored while the count is below the
declared length (D10, log entry 11). `rx_state` stays. The stamp is rule R160's (D8). -/
def Obligations.EncodedByteRows : Prop :=
  ∀ (s : State) (r : Reception) (h l : Nibble), s.rxState = .stxReceived → s.rx = some r →
    (r.first = true → ∃ n, s.clock ≤ n ∧ exec (.stxEncHigh h (~~~h)) s =
      .next { s.byteSeen n with rx := some { r with half := (h ++ (~~~h)) &&& 0xF0#8, first := false } }) ∧
    (r.first = false → ∃ n, s.clock ≤ n ∧ exec (.stxEncLow (~~~l) l) s =
      .next { s.byteSeen n with rx := some { r with
        first := true
        crc := r.crc ^^^ (r.half ||| (((~~~l) ++ l) &&& 0x0F#8))
        payload := if r.count < r.len.toNat then r.payload ++ [r.half ||| (((~~~l) ++ l) &&& 0x0F#8)] else r.payload
        count := min (r.count + 1) 256 } })

/-- Rules R173, R174: ETX is accepted exactly when the count equals the declared length, whatever the first-nibble flag;
a byte that is neither valid encoded nor ETX discards with BAD_DATA. The stamp is rule R160's (D8), the TRANSITION event
the model's (log entry 20). -/
def Obligations.EndOfBodyRows : Prop :=
  ∀ (s : State) (r : Reception), s.rxState = .stxReceived → s.rx = some r →
    (r.count = r.len.toNat → ∃ n, s.clock ≤ n ∧ exec .stxEtx s = .next (s.advanced n .etxReceived r)) ∧
    (r.count ≠ r.len.toNat → ∃ n, s.clock ≤ n ∧ exec .stxEtx s = .next (s.dropped n .lengthMismatch)) ∧
    (∀ b : Byte, validByte b = false → b ≠ 0x03#8 →
      ∃ n, s.clock ≤ n ∧ exec (.stxOther b) s = .next (s.dropped n .badData))

/-- Rules R176, R177: the checksum byte is accepted exactly when it equals the accumulator. The stamp is rule R160's (D8),
the TRANSITION event the model's (log entry 20). -/
def Obligations.ChecksumByteRows : Prop :=
  ∀ (s : State) (r : Reception) (b : Byte), s.rxState = .etxReceived → s.rx = some r →
    (b = r.crc → ∃ n, s.clock ≤ n ∧ exec (.etxCrcMatch b) s = .next (s.advanced n .crcOk r)) ∧
    (b ≠ r.crc → ∃ n, s.clock ≤ n ∧ exec (.etxCrcMismatch b) s = .next (s.dropped n .badChecksum))

/-- Rules R178, R179, R62: EOT appends the message with the fields of the reception to the inbound FIFO; with a full finite
FIFO the frame is dropped with RX_OVERFLOW (D13); any other byte discards with BAD_EOT. The stamp is rule R160's (D8), the
TRANSITION event the model's (log entry 20). -/
def Obligations.EndOfFrameRows : Prop :=
  ∀ (s : State) (r : Reception), s.rxState = .crcOk → s.rx = some r →
    ((∀ d, s.params.rxqDepth = some d → s.rxFifo.length < d) → ∃ n, s.clock ≤ n ∧ exec .crcOkEot s =
      .next { s.byteSeen n with
        rx := none
        rxState := .idle
        rxFifo := s.rxFifo ++ [{ src := r.src, dst := r.dst, tid := r.tid, len := r.len, payload := r.payload }]
        out := s.out ++ traceTransition s.params.trace .crcOk .idle }) ∧
    (∀ d, s.params.rxqDepth = some d → d ≤ s.rxFifo.length →
      ∃ n, s.clock ≤ n ∧ exec .crcOkEot s = .next (s.dropped n .rxOverflow)) ∧
    (∀ b : Byte, b ≠ 0x04#8 → ∃ n, s.clock ≤ n ∧ exec (.crcOkOther b) s = .next (s.dropped n .badEot))

/-- Rules R8 a, R92, R95: a symbol row is one byte taken by the receiver in its current state: it is the row its byte
decodes to there, and it completes. That such a row runs as one byte step is the model's reading (log entry 22). -/
def Obligations.SymbolRowsAreByteSteps : Prop :=
  ∀ (s : State), (s.rxState ≠ .idle → s.rx.isSome = true) →
    ∀ (i : Instr) (b : Byte),
      ((i, b) = (.symNul, 0x00#8) ∨ (i, b) = (.symSoh, 0x01#8) ∨ (i, b) = (.symStx, 0x02#8) ∨
        (i, b) = (.symEtx, 0x03#8) ∨ (i, b) = (.symEot, 0x04#8) ∨ (i, b) = (.symLf, 0x0A#8) ∨
        ∃ h : Nibble, (i, b) = (.symEnc h (~~~h), h ++ (~~~h))) →
      exec i s = exec (decodeWire (wireContext s) b) s ∧ ∃ t, exec i s = .next t ∧ t.txFifo = s.txFifo ∧
        t.de = s.de ∧ t.ownAddr = s.ownAddr

/-- Rules R185, R235: the check at the end of a TICK. In IDLE nothing is read. Otherwise one clock reading discards the
reception exactly when strictly more than the packet timeout has passed since its start; the activity stamp is not
touched. Then TICK answers its `tx_result` (D19). The document's timeout is 500 ms. That this is a step of its own is the
model's choice (log entry 1), and so is the TRANSITION event (log entry 20). -/
def Obligations.PacketTimeoutRow : Prop :=
  ({} : Params).packetTimeoutMs = 500 ∧
  ∀ (s : State) (r : TxResult), s.phase = .timeout r →
    (s.rxState = .idle → exec .rxTimeout s = .next { s with phase := .idle, result := .tick r }) ∧
    (∀ x, s.rxState ≠ .idle → s.rx = some x → ∃ n, s.clock ≤ n ∧
      (s.params.packetTimeoutMs < n - x.start → exec .rxTimeout s =
        .next { s.clockSeen n with
          rx := none
          rxState := .idle
          out := s.out ++ (traceDiscard s.params.trace .timeout s.rxState
            ++ traceTransition s.params.trace s.rxState .idle)
          phase := .idle
          result := .tick r }) ∧
      (n - x.start ≤ s.params.packetTimeoutMs → exec .rxTimeout s =
        .next { s.clockSeen n with phase := .idle, result := .tick r }))

/-! ## The transmit scheduler -/

/-- Rules R200, R201, R202: with an empty queue the step does nothing and reads nothing; otherwise one clock reading opens
the gate exactly when at least the line-ready time has passed since the last bus activity. The document's threshold
is 10 ms. -/
def Obligations.LineIdleGateRow : Prop :=
  ({} : Params).lineReadyMs = 10 ∧
  ∀ s : State, s.phase = .drain →
    (s.txFifo = [] → exec .txGate s = .next { s with phase := .timeout .nothing }) ∧
    (s.txFifo ≠ [] → ∃ n, s.clock ≤ n ∧
      (s.params.lineReadyMs ≤ n - s.lastBusActivity →
        exec .txGate s = .next { s.clockSeen n with phase := .assertDe }) ∧
      (n - s.lastBusActivity < s.params.lineReadyMs →
        exec .txGate s = .next { s.clockSeen n with phase := .timeout .nothing }))

/-- Rules R204, R210: the output rises before the first settle wait and falls before the second, whether or not the write
and the wait succeeded. That each is a step of its own, and the phases it moves between, are the model's choice (log entry
1). -/
def Obligations.DirectionControlRows : Prop :=
  ∀ s : State,
    (s.phase = .assertDe →
      exec .txAssert s = .next { s with de := true, out := s.out ++ [.drive true], phase := .settle1 }) ∧
    (∀ ok, s.phase = .deassert ok →
      exec .txDeassert s = .next { s with de := false, out := s.out ++ [.drive false], phase := .settle2 ok })

/-- Rules R205, R211, R293: each settle wait lasts at least the whole milliseconds of the settle time; the second one also
follows a failure. -/
def Obligations.SettleWaitRows : Prop :=
  ∀ s : State,
    (s.phase = .settle1 → ∃ n, s.clock + (s.params.settle.num / (s.params.settle.den : Int)).toNat ≤ n ∧
      exec .txSettle1 s =
        .next { s.clockSeen n with out := s.out ++ [.wait s.params.settle], phase := .write }) ∧
    (∀ ok, s.phase = .settle2 ok → ∃ n, s.clock + (s.params.settle.num / (s.params.settle.den : Int)).toNat ≤ n ∧
      exec .txSettle2 s =
        .next { s.clockSeen n with
          out := s.out ++ [.wait s.params.settle], phase := if ok = true then .commit else .fail })

/-- Rule R206: the whole head frame is handed over in one write. If the channel takes it, the completion wait follows; if it
fails, the wait is skipped, and some first part of the frame has reached the wire. -/
def Obligations.WriteRow : Prop :=
  ∀ (s : State) (f : Frame) (rest : List Frame), s.phase = .write → s.txFifo = f :: rest →
    (s.nextWrite = .ok → ∃ n m, s.clock ≤ n ∧ exec .txWrite s =
      .next { s.clockSeen n with
        freeIndex := m
        writeAnswers := s.writeAnswers.tail
        chanTx := s.chanTx ++ f
        out := s.out ++ [.write f]
        phase := .complete }) ∧
    (∀ k, s.nextWrite = .fail k → ∃ n m, s.clock ≤ n ∧ exec .txWrite s =
      .next { s.clockSeen n with
        freeIndex := m
        writeAnswers := s.writeAnswers.tail
        chanTx := s.chanTx ++ f.take k
        out := s.out ++ [.write f]
        phase := .deassert false })

/-- Rule R207: in EXACT mode one query is asked; true and fail end the wait, false leaves it waiting. No flush is issued. -/
def Obligations.CompleteExactRow : Prop :=
  ∀ s : State, s.phase = .complete → s.params.completion = .exact →
    ∃ n m, s.clock ≤ n ∧ exec .txCompleteExact s =
      .next { s.clockSeen n with
        freeIndex := m
        doneAnswers := s.doneAnswers.tail
        out := s.out ++ [.askDone]
        phase := match s.nextDone with
          | .done => .deassert true
          | .fail => .deassert false
          | .notYet => .complete }

/-- Rules R208, R209, R215: in the estimate modes the wait is the wire time of the head frame times the margin; a failing
flush fails the wait with no sleep. -/
def Obligations.CompleteByEstimateRows : Prop :=
  ∀ (s : State) (f : Frame) (rest : List Frame), s.phase = .complete → s.txFifo = f :: rest → 0 < s.params.baud →
    (s.params.completion = .flushEstimate → s.nextFlush = .fail → ∃ n m, s.clock ≤ n ∧
      exec .txCompleteFlushEstimate s =
        .next { s.clockSeen n with
          freeIndex := m
          flushAnswers := s.flushAnswers.tail
          out := s.out ++ [.flush]
          phase := .deassert false }) ∧
    (s.params.completion = .flushEstimate → s.nextFlush = .ok → ∃ n m d a,
      d.num = (f.length * s.params.bitsPerByte * 1000 : Nat) * s.params.marginFlush.num ∧
      d.den = s.params.baud.toNat * s.params.marginFlush.den ∧
      s.clock + (d.num / (d.den : Int)).toNat ≤ n ∧
      exec .txCompleteFlushEstimate s =
        .next { s.clockSeen n with
          freeIndex := m
          advances := a
          flushAnswers := s.flushAnswers.tail
          out := s.out ++ [.flush, .wait d]
          phase := .deassert true }) ∧
    (s.params.completion = .estimate → ∃ n d,
      d.num = (f.length * s.params.bitsPerByte * 1000 : Nat) * s.params.marginNoFlush.num ∧
      d.den = s.params.baud.toNat * s.params.marginNoFlush.den ∧
      s.clock + (d.num / (d.den : Int)).toNat ≤ n ∧
      exec .txCompleteEstimate s =
        .next { s.clockSeen n with out := s.out ++ [.wait d], phase := .deassert true })

/-- Rules R212, R213: success stamps the activity with a clock reading and removes the head frame; failure changes neither.
The result of the attempt is what TICK will answer. -/
def Obligations.OutcomeRows : Prop :=
  ∀ s : State,
    (s.phase = .commit → ∃ n, s.clock ≤ n ∧ exec .txCommit s =
      .next { s.byteSeen n with
        txFifo := s.txFifo.tail
        out := s.out ++ traceTx s.params.trace .sent
        phase := .timeout .sent }) ∧
    (s.phase = .fail → exec .txFail s =
      .next { s with out := s.out ++ traceTx s.params.trace .failed, phase := .timeout .failed })

/-! ## The machine -/

/-- A step runs the decoded word (rules R9, R235, R236, R299): a command off the port between host operations, a received
byte in the drain, the phase's row otherwise and when the drain has no byte; with no command it holds its state.
A read that answers none ends the drain (D24), and a failing receive side is refused as `receiveFailure`, because the spec
gives it no outcome (N14, I8). Silence, `noByte` and failure as items of the receive list are the model's choice (log
entry 18). -/
def Obligations.StepRunsTheDecodedRow : Prop :=
  ∀ s : State,
    (s.phase = .idle → s.commands = [] → step s = .next s) ∧
    (∀ c rest i, s.phase = .idle → s.commands = c :: rest → decode .port (.command c) = .instr i →
      step s = exec i { s with commands := rest }) ∧
    (∀ b rest i, s.phase = .drain → s.chanRx = .byte b :: rest →
      decode (.wire (wireContext s)) (.byte b) = .instr i → step s = exec i { s with chanRx := rest }) ∧
    (∀ i, s.phase = .drain → s.chanRx = [] → decode (.sequencer .drain s.params.completion) .empty = .instr i →
      step s = exec i s) ∧
    (∀ rest i, s.phase = .drain → s.chanRx = .silence :: rest ∨ s.chanRx = .noByte :: rest →
      decode (.sequencer .drain s.params.completion) .empty = .instr i → step s = exec i { s with chanRx := rest }) ∧
    (∀ rest, s.phase = .drain → s.chanRx = .failure :: rest → step s = .refused .receiveFailure) ∧
    (∀ i, s.phase ≠ .idle → s.phase ≠ .drain → decode (.sequencer s.phase s.params.completion) .empty = .instr i →
      step s = exec i s)

/-- Rules R50, R310: what reset leaves. The address, settle time, bit rate and completion strategy are the model's choice
(log entry 2), of which only what CONSTRUCT checks is said; the clock's reading is log entry 4. -/
def Obligations.ResetIsAFreshEngine : Prop :=
  State.reset.built = true ∧ State.reset.ownAddr = State.reset.params.addr ∧ State.reset.ownAddr.toNat ≤ 254 ∧
  State.reset.rxState = .idle ∧ State.reset.rx = none ∧ State.reset.rxFifo = [] ∧ State.reset.txFifo = [] ∧
  State.reset.de = false ∧ State.reset.lastBusActivity = State.reset.clock ∧ State.reset.phase = .idle ∧
  State.reset.params.settle.positive = true ∧ State.reset.params.packetTimeoutMs = 500 ∧
  State.reset.params.lineReadyMs = 10 ∧ State.reset.params.bitsPerByte = 10 ∧
  State.reset.params.marginFlush = { num := 11, den := 10 } ∧
  State.reset.params.marginNoFlush = { num := 12, den := 10 } ∧
  State.reset.params.txqDepth = none ∧ State.reset.params.rxqDepth = none

/-- The invariant holds at reset. -/
def Obligations.InvariantHoldsAtReset : Prop := State.reset.Inv

/-- Every step of every state keeps the invariant: the address is a node address (rule R21), a reception is present exactly
outside IDLE (rule R23) and holds what rule R28 b and d say and, of R28 c and e, what the stored payload can express (R28 a
speaks of the address at an earlier time and is not in it), messages and frames are well-formed (rules R32, R33), timestamps
lie in the past (rule R158), and the output is high exactly between ASSERT and DEASSERT, so low between host operations
(rule R36). -/
def Obligations.EveryStepKeepsTheInvariant : Prop :=
  ∀ s t : State, s.Inv → step s = .next t → t.Inv

/-- Rules R35, R36: only ASSERT raises the direction-control output; only DEASSERT and a CONSTRUCT lower it. -/
def Obligations.OnlySendAttemptsDriveTheOutput : Prop :=
  ∀ s t : State, step s = .next t →
    t.de = s.de ∨ (s.phase = .assertDe ∧ t.de = true) ∨ ((∃ ok, s.phase = .deassert ok) ∧ t.de = false) ∨
    (∃ c rest, s.phase = .idle ∧ s.commands = c :: rest ∧ c.code = 0#4 ∧ t.de = false)

/-- Rules R21, R237: only CONSTRUCT and SET_ADDR change the node's address, to a valid node address; no step of a TICK
does. Rule R10: the parameters are fixed at CONSTRUCT; only a CONSTRUCT changes one, to its own arguments. -/
def Obligations.OnlyTheHostChangesTheAddress : Prop :=
  ∀ s t : State, step s = .next t →
    (t.ownAddr ≠ s.ownAddr →
      ∃ c rest, s.phase = .idle ∧ s.commands = c :: rest ∧ (c.code = 0#4 ∨ c.code = 7#4) ∧ t.ownAddr = c.addr ∧
        t.ownAddr.toNat ≤ 254) ∧
    (t.params ≠ s.params →
      ∃ c rest, s.phase = .idle ∧ s.commands = c :: rest ∧ c.code = 0#4 ∧
        t.params = { s.params with addr := c.addr, settle := c.settle, baud := c.baud, completion := c.completion })

/-- Rule R22: a step leaves `rx_state`, sends it to IDLE, or advances it by one along the chain, and only a received byte
advances it. -/
def Obligations.ReceiverMovesAlongTheChain : Prop :=
  ∀ s t : State, step s = .next t →
    t.rxState = s.rxState ∨ t.rxState = .idle ∨
    (t.rxState.number = s.rxState.number + 1 ∧ s.phase = .drain ∧ ∃ b rest, s.chanRx = .byte b :: rest)

/-- Rule R182: a message is appended to the inbound FIFO only by an EOT taken in CRC_OK, with the reception's fields; only
READ removes one, from the head, and only a CONSTRUCT empties the FIFO. -/
def Obligations.SingleSuccessPath : Prop :=
  ∀ s t : State, step s = .next t →
    t.rxFifo = s.rxFifo ∨
    (∃ r rest, s.phase = .drain ∧ s.rxState = .crcOk ∧ s.rx = some r ∧ s.chanRx = .byte 0x04#8 :: rest ∧
      t.rxFifo = s.rxFifo ++ [{ src := r.src, dst := r.dst, tid := r.tid, len := r.len, payload := r.payload }]) ∨
    (∃ c rest m, s.phase = .idle ∧ s.commands = c :: rest ∧ c.code = 5#4 ∧ s.rxFifo = m :: t.rxFifo) ∨
    (∃ c rest, s.phase = .idle ∧ s.commands = c :: rest ∧ c.code = 0#4 ∧ t.rxFifo = [])

/-- Rules R75, R213, R237, R240, R256: a frame enters the outbound FIFO at the tail, by ENQUEUE with the command's destination
and transaction id, or by REPLY with the message's source and transaction id (not for a broadcast without override),
encoded with the address of that moment; it leaves at the head, by COMMIT; otherwise only a CONSTRUCT empties the FIFO. -/
def Obligations.OutboundFifoIsStrict : Prop :=
  ∀ s t : State, step s = .next t →
    t.txFifo = s.txFifo ∨
    (s.phase = .commit ∧ t.txFifo = s.txFifo.tail) ∨
    (∃ c rest, s.phase = .idle ∧ s.commands = c :: rest ∧ 1 ≤ c.payload.length ∧ c.payload.length ≤ 255 ∧
      ((c.code = 2#4 ∧ t.txFifo = s.txFifo ++ [frameBytes c.addr s.ownAddr c.tid c.payload]) ∨
        (c.code = 9#4 ∧ (c.message.dst = 255#8 → c.override = true) ∧
          t.txFifo = s.txFifo ++ [frameBytes c.message.src s.ownAddr c.message.tid c.payload]))) ∨
    (∃ c rest, s.phase = .idle ∧ s.commands = c :: rest ∧ c.code = 0#4 ∧ t.txFifo = [])

/-- Rules R30, R160, R161: the activity stamp is written, with the clock's reading, only by a received byte other than a NUL
in IDLE, by a successful send, and by a CONSTRUCT; not by a failed send, a timeout or any other host operation. -/
def Obligations.ActivityStampWriters : Prop :=
  ∀ s t : State, step s = .next t →
    t.lastBusActivity = s.lastBusActivity ∨
    (t.lastBusActivity = t.clock ∧
      ((∃ b rest, s.phase = .drain ∧ s.chanRx = .byte b :: rest ∧ ¬(s.rxState = .idle ∧ b = 0#8)) ∨
        s.phase = .commit ∨
        ∃ c rest, s.phase = .idle ∧ s.commands = c :: rest ∧ c.code = 0#4))

/-- Rule R292: the clock never runs backwards. -/
def Obligations.ClockNeverRunsBackwards : Prop :=
  ∀ s t : State, step s = .next t → s.clock ≤ t.clock

/-- Rule R298: the trace never feeds back: two states that differ only in the trace port and in what has left the block
step to the same outcome but for those two. -/
def Obligations.TraceNeverFeedsBack : Prop :=
  ∀ s s' : State, s.sameButTrace s' → outcomesAgree State.sameButTrace (step s) (step s')

/-- Rule R25, decision D23: no result depends on a reception field that no rule has written yet: from two states that differ
only in such fields a step, and every row of the table run by itself, goes to outcomes that differ only in such fields. -/
def Obligations.UnwrittenFieldsNeverMatter : Prop :=
  ∀ s s' : State, s.Inv → s.sameWritten s' →
    outcomesAgree State.sameWritten (step s) (step s') ∧
    ∀ i : Instr, outcomesAgree State.sameWritten (exec i s) (exec i s')

/-- Rules R136, S1: the bytes of an encoded frame for this node or for everyone, taken from IDLE in one drain, append exactly
one message with the source, destination, transaction id, length and payload that were encoded, and end in IDLE. -/
def Obligations.EncodedFrameIsReceived : Prop :=
  ∀ (s : State) (dst src tid : Byte) (payload : List Byte) (rest : List RxItem),
    1 ≤ payload.length → payload.length ≤ 255 → s.phase = .drain → s.rxState = .idle →
    (dst = s.ownAddr ∨ dst = 0xFF#8) → (∀ d, s.params.rxqDepth = some d → s.rxFifo.length < d) →
    s.chanRx = (frameBytes dst src tid payload).map .byte ++ rest →
    ∃ t, Sys2Proof.core.run (14 + 2 * payload.length) s = .next t ∧
      t.rxFifo = s.rxFifo ++
        [{ src := src, dst := dst, tid := tid, len := BitVec.ofNat 8 payload.length, payload := payload }] ∧
      t.rxState = .idle ∧ t.rx = none ∧ t.phase = .drain ∧ t.chanRx = rest ∧ t.txFifo = s.txFifo ∧
      t.ownAddr = s.ownAddr ∧ t.de = s.de

/-- Rules R235, R236, R237: a TICK whose drain ends and whose completion query is answered runs to its end. The drain takes
every byte up to the point where the count reads zero or a read answers none, with the mark that ends it, and nothing
later. The transmit step then sends the head frame (SENT), fails it with some first part on the wire (FAILED), or puts
nothing on the wire (NONE), and removes a frame exactly when it answers SENT. After the timeout check no reception is older
than the packet timeout. At most one message is appended per drained byte, the output is low, and neither the address nor
the parameters change. The marks in the receive list are the model's (log entry 18), the steps its own (log entry 1). -/
def Obligations.TickRunsToItsEnd : Prop :=
  ∀ (s : State) (c : Command) (cs : List Command) (bytes : List Byte) (later : List RxItem),
    s.Inv → s.phase = .idle → s.built = true → s.commands = c :: cs → c.code = 1#4 →
    ((s.chanRx = bytes.map .byte ∧ later = []) ∨ s.chanRx = bytes.map .byte ++ .silence :: later ∨
      s.chanRx = bytes.map .byte ++ .noByte :: later) →
    (s.params.completion = .exact →
      ∃ k a more, s.doneAnswers = List.replicate k .notYet ++ a :: more ∧ a ≠ .notYet) →
    ∃ n t, Sys2Proof.core.run n s = .next t ∧ t.phase = .idle ∧ t.de = false ∧ t.commands = cs ∧
      t.chanRx = later ∧ t.ownAddr = s.ownAddr ∧ t.params = s.params ∧
      (∃ r, t.result = .tick r ∧
        (r = .nothing → t.txFifo = s.txFifo ∧ t.chanTx = s.chanTx) ∧
        (r = .sent → ∃ f, s.txFifo = f :: t.txFifo ∧ t.chanTx = s.chanTx ++ f) ∧
        (r = .failed → t.txFifo = s.txFifo ∧ ∃ f fs k, s.txFifo = f :: fs ∧ t.chanTx = s.chanTx ++ f.take k)) ∧
      (∀ x, t.rx = some x → t.clock - x.start ≤ t.params.packetTimeoutMs) ∧
      ∃ ms, t.rxFifo = s.rxFifo ++ ms ∧ ms.length ≤ bytes.length

/-- Rule R323: a channel that keeps answering false keeps the TICK waiting with the output asserted: no number of steps
brings it back to the host. -/
def Obligations.UnansweredCompletionHangsTheTick : Prop :=
  ∀ (n : Nat) (s : State) (more : List DoneAnswer), s.phase = .complete → s.params.completion = .exact → s.de = true →
    s.doneAnswers = List.replicate n .notYet ++ more →
    ∃ t, Sys2Proof.core.run n s = .next t ∧ t.phase = .complete ∧ t.de = true ∧ t.commands = s.commands ∧
      t.txFifo = s.txFifo

/-- Rules R161, S5: a run of NUL bytes in IDLE changes neither the receiver, the activity stamp nor the FIFOs. -/
def Obligations.IdleFillIsInert : Prop :=
  ∀ (n : Nat) (s : State) (rest : List RxItem), s.phase = .drain → s.rxState = .idle →
    s.chanRx = List.replicate n (.byte 0x00#8) ++ rest →
    ∃ t, Sys2Proof.core.run n s = .next t ∧ t.chanRx = rest ∧
      t = { s with chanRx := t.chanRx, clock := t.clock, advances := t.advances, freeIndex := t.freeIndex }

/-- Rule R203: the visible trace of a successful attempt, in order, in each completion mode: the output rises, a settle wait,
the frame in one write, the completion wait, the output falls, a settle wait; the frame is then gone and the activity
is stamped. The completion wait is `k` queries that answer false and one that answers true (EXACT), a flush and the
estimate times 1.1 (FLUSH_ESTIMATE), or the estimate times 1.2 (ESTIMATE). That each phase and each query is a step of its
own is the model's choice (log entry 1). -/
def Obligations.SuccessfulAttemptTrace : Prop :=
  ∀ (s : State) (f : Frame) (fs : List Frame) (was : List WriteAnswer),
    s.phase = .assertDe → s.txFifo = f :: fs → s.writeAnswers = .ok :: was →
    (∀ k das, s.params.completion = .exact → s.doneAnswers = List.replicate k .notYet ++ .done :: das →
      ∃ t, Sys2Proof.core.run (7 + k) s = .next t ∧ t.doneAnswers = das ∧ t.flushAnswers = s.flushAnswers ∧
        s.attemptSent t f fs (List.replicate (k + 1) .askDone) 0) ∧
    (∀ fas, s.params.completion = .flushEstimate → 0 < s.params.baud → s.flushAnswers = .ok :: fas →
      ∃ t d, d.num = (f.length * s.params.bitsPerByte * 1000 : Nat) * s.params.marginFlush.num ∧
        d.den = s.params.baud.toNat * s.params.marginFlush.den ∧
        Sys2Proof.core.run 7 s = .next t ∧ t.flushAnswers = fas ∧ t.doneAnswers = s.doneAnswers ∧
        s.attemptSent t f fs [.flush, .wait d] d.floorMs) ∧
    (s.params.completion = .estimate → 0 < s.params.baud →
      ∃ t d, d.num = (f.length * s.params.bitsPerByte * 1000 : Nat) * s.params.marginNoFlush.num ∧
        d.den = s.params.baud.toNat * s.params.marginNoFlush.den ∧
        Sys2Proof.core.run 7 s = .next t ∧ t.flushAnswers = s.flushAnswers ∧ t.doneAnswers = s.doneAnswers ∧
        s.attemptSent t f fs [.wait d] d.floorMs)

/-- Rules R203, R206, R207, R208, R213: the visible trace of an attempt that fails. When the write fails, in any completion
mode, the completion wait is skipped and only a first part of the frame may have reached the wire (D17); when the query
fails, or the flush fails, the wait ends there with no sleep (D16). The output falls all the same, both settle waits are
made, and the queue, the activity stamp and the receiver are as before. That each phase and each query is a step of its own
is the model's choice (log entry 1). -/
def Obligations.FailedAttemptTrace : Prop :=
  ∀ (s : State) (f : Frame) (fs : List Frame), s.phase = .assertDe → s.txFifo = f :: fs →
    (∀ k was, s.writeAnswers = .fail k :: was →
      ∃ t, Sys2Proof.core.run 6 s = .next t ∧ t.doneAnswers = s.doneAnswers ∧ t.flushAnswers = s.flushAnswers ∧
        s.attemptFailed t f (f.take k) []) ∧
    (∀ k was das, s.writeAnswers = .ok :: was → s.params.completion = .exact →
      s.doneAnswers = List.replicate k .notYet ++ .fail :: das →
      ∃ t, Sys2Proof.core.run (7 + k) s = .next t ∧ t.doneAnswers = das ∧ t.flushAnswers = s.flushAnswers ∧
        s.attemptFailed t f f (List.replicate (k + 1) .askDone)) ∧
    (∀ was fas, s.writeAnswers = .ok :: was → s.params.completion = .flushEstimate → s.flushAnswers = .fail :: fas →
      ∃ t, Sys2Proof.core.run 7 s = .next t ∧ t.flushAnswers = fas ∧ t.doneAnswers = s.doneAnswers ∧
        s.attemptFailed t f f [.flush])
end

