-- ==== Sys2Proof/Laws/Codec.lean ====
section
/-! SUPPORT. Laws/Codec.lean: what the codec's pure functions are to each other: nibbles and bytes, encoded bytes, the
length of a frame, the checksum of a growing payload. -/

namespace Sys2Proof

theorem joinNibbles_split (b : Byte) : joinNibbles (highNibble b) (lowNibble b) = b := by revert b; decide

@[simp] theorem highNibble_join (h c : Nibble) : highNibble (joinNibbles h c) = h := by revert h c; decide

@[simp] theorem lowNibble_join (h c : Nibble) : lowNibble (joinNibbles h c) = c := by revert h c; decide

@[simp] theorem validByte_join (h c : Nibble) : validByte (joinNibbles h c) = (c == ~~~h) := by revert h c; decide

/-- The nibble form of rule R95. -/
theorem validByte_eq (b : Byte) : validByte b = (lowNibble b == ~~~(highNibble b)) := by revert b; decide

theorem encHigh_valid (p : Byte) : validByte (encHigh p) = true := by simp [encHigh]

theorem encLow_valid (p : Byte) : validByte (encLow p) = true := by simp [encLow]

theorem ETX_not_valid : validByte ETX = false := by decide

theorem byteClass_enc_of_valid (b : Byte) (h : validByte b = true) : byteClass b = .enc := by
  revert b; decide

@[simp] theorem encodeBody_nil : encodeBody [] = [] := rfl

@[simp] theorem encodeBody_cons (p : Byte) (l : List Byte) :
    encodeBody (p :: l) = encHigh p :: encLow p :: encodeBody l := rfl

theorem encodeBody_length (l : List Byte) : (encodeBody l).length = 2 * l.length := by
  induction l with
  | nil => rfl
  | cons p l ih => simp [ih]; omega

theorem frameBytes_length (dst src tid : Byte) (l : List Byte) :
    (frameBytes dst src tid l).length = 14 + 2 * l.length := by
  simp [frameBytes, coreFrame, encodeBody_length]; omega

@[simp] theorem checksum_nil (dst src len : Byte) : checksum dst src len [] = checksumInit dst src len := rfl

theorem checksum_append (dst src len d : Byte) (l : List Byte) :
    checksum dst src len (l ++ [d]) = checksumFold (checksum dst src len l) d := by
  simp [checksum]

theorem lengthByte_toNat (l : List Byte) (h : l.length ≤ 255) : (lengthByte l).toNat = l.length := by
  simp [lengthByte]; omega

theorem lengthByte_ne_zero (l : List Byte) (h1 : 1 ≤ l.length) (h2 : l.length ≤ 255) : lengthByte l ≠ 0#8 := by
  intro h
  have := lengthByte_toNat l h2
  rw [h] at this
  simp at this
  omega

end Sys2Proof
end

