-- ==== Sys2Proof/Laws/State.lean ====
section
/-! SUPPORT. Laws/State.lean: one lemma per field per update of the state, true by `rfl` and tagged `@[simp]`, so that no
later proof unfolds a record update. -/

namespace Sys2Proof.Machine

variable (s : State)

/-! ## passTime -/

@[simp] theorem passTime_built (n : Nat) : (passTime n s).built = s.built := rfl
@[simp] theorem passTime_ownAddr (n : Nat) : (passTime n s).ownAddr = s.ownAddr := rfl
@[simp] theorem passTime_rxState (n : Nat) : (passTime n s).rxState = s.rxState := rfl
@[simp] theorem passTime_rx (n : Nat) : (passTime n s).rx = s.rx := rfl
@[simp] theorem passTime_lastBusActivity (n : Nat) : (passTime n s).lastBusActivity = s.lastBusActivity := rfl
@[simp] theorem passTime_rxFifo (n : Nat) : (passTime n s).rxFifo = s.rxFifo := rfl
@[simp] theorem passTime_txFifo (n : Nat) : (passTime n s).txFifo = s.txFifo := rfl
@[simp] theorem passTime_de (n : Nat) : (passTime n s).de = s.de := rfl
@[simp] theorem passTime_params (n : Nat) : (passTime n s).params = s.params := rfl
@[simp] theorem passTime_phase (n : Nat) : (passTime n s).phase = s.phase := rfl
@[simp] theorem passTime_result (n : Nat) : (passTime n s).result = s.result := rfl
@[simp] theorem passTime_out (n : Nat) : (passTime n s).out = s.out := rfl
@[simp] theorem passTime_commands (n : Nat) : (passTime n s).commands = s.commands := rfl
@[simp] theorem passTime_chanRx (n : Nat) : (passTime n s).chanRx = s.chanRx := rfl
@[simp] theorem passTime_chanTx (n : Nat) : (passTime n s).chanTx = s.chanTx := rfl
@[simp] theorem passTime_clock (n : Nat) : (passTime n s).clock = s.clock + n + s.nextAdvance := rfl
@[simp] theorem passTime_advances (n : Nat) : (passTime n s).advances = s.advances.tail := rfl
@[simp] theorem passTime_writeAnswers (n : Nat) : (passTime n s).writeAnswers = s.writeAnswers := rfl
@[simp] theorem passTime_doneAnswers (n : Nat) : (passTime n s).doneAnswers = s.doneAnswers := rfl
@[simp] theorem passTime_flushAnswers (n : Nat) : (passTime n s).flushAnswers = s.flushAnswers := rfl
@[simp] theorem passTime_freeIndex (n : Nat) : (passTime n s).freeIndex = freeIndexAfter s.advances s.freeIndex := rfl

/-! ## readClock -/

@[simp] theorem readClock_built : (readClock s).built = s.built := rfl
@[simp] theorem readClock_ownAddr : (readClock s).ownAddr = s.ownAddr := rfl
@[simp] theorem readClock_rxState : (readClock s).rxState = s.rxState := rfl
@[simp] theorem readClock_rx : (readClock s).rx = s.rx := rfl
@[simp] theorem readClock_lastBusActivity : (readClock s).lastBusActivity = s.lastBusActivity := rfl
@[simp] theorem readClock_rxFifo : (readClock s).rxFifo = s.rxFifo := rfl
@[simp] theorem readClock_txFifo : (readClock s).txFifo = s.txFifo := rfl
@[simp] theorem readClock_de : (readClock s).de = s.de := rfl
@[simp] theorem readClock_params : (readClock s).params = s.params := rfl
@[simp] theorem readClock_phase : (readClock s).phase = s.phase := rfl
@[simp] theorem readClock_result : (readClock s).result = s.result := rfl
@[simp] theorem readClock_out : (readClock s).out = s.out := rfl
@[simp] theorem readClock_commands : (readClock s).commands = s.commands := rfl
@[simp] theorem readClock_chanRx : (readClock s).chanRx = s.chanRx := rfl
@[simp] theorem readClock_chanTx : (readClock s).chanTx = s.chanTx := rfl
@[simp] theorem readClock_clock : (readClock s).clock = s.clock + s.nextAdvance := rfl
@[simp] theorem readClock_advances : (readClock s).advances = s.advances.tail := rfl
@[simp] theorem readClock_writeAnswers : (readClock s).writeAnswers = s.writeAnswers := rfl
@[simp] theorem readClock_doneAnswers : (readClock s).doneAnswers = s.doneAnswers := rfl
@[simp] theorem readClock_flushAnswers : (readClock s).flushAnswers = s.flushAnswers := rfl
@[simp] theorem readClock_freeIndex : (readClock s).freeIndex = freeIndexAfter s.advances s.freeIndex := rfl

/-! ## wait -/

@[simp] theorem wait_built (d : Duration) : (wait d s).built = s.built := rfl
@[simp] theorem wait_ownAddr (d : Duration) : (wait d s).ownAddr = s.ownAddr := rfl
@[simp] theorem wait_rxState (d : Duration) : (wait d s).rxState = s.rxState := rfl
@[simp] theorem wait_rx (d : Duration) : (wait d s).rx = s.rx := rfl
@[simp] theorem wait_lastBusActivity (d : Duration) : (wait d s).lastBusActivity = s.lastBusActivity := rfl
@[simp] theorem wait_rxFifo (d : Duration) : (wait d s).rxFifo = s.rxFifo := rfl
@[simp] theorem wait_txFifo (d : Duration) : (wait d s).txFifo = s.txFifo := rfl
@[simp] theorem wait_de (d : Duration) : (wait d s).de = s.de := rfl
@[simp] theorem wait_params (d : Duration) : (wait d s).params = s.params := rfl
@[simp] theorem wait_phase (d : Duration) : (wait d s).phase = s.phase := rfl
@[simp] theorem wait_result (d : Duration) : (wait d s).result = s.result := rfl
@[simp] theorem wait_out (d : Duration) : (wait d s).out = s.out ++ [.wait d] := rfl
@[simp] theorem wait_commands (d : Duration) : (wait d s).commands = s.commands := rfl
@[simp] theorem wait_chanRx (d : Duration) : (wait d s).chanRx = s.chanRx := rfl
@[simp] theorem wait_chanTx (d : Duration) : (wait d s).chanTx = s.chanTx := rfl
@[simp] theorem wait_clock (d : Duration) : (wait d s).clock = s.clock + d.floorMs + s.nextAdvance := rfl
@[simp] theorem wait_advances (d : Duration) : (wait d s).advances = s.advances.tail := rfl
@[simp] theorem wait_writeAnswers (d : Duration) : (wait d s).writeAnswers = s.writeAnswers := rfl
@[simp] theorem wait_doneAnswers (d : Duration) : (wait d s).doneAnswers = s.doneAnswers := rfl
@[simp] theorem wait_flushAnswers (d : Duration) : (wait d s).flushAnswers = s.flushAnswers := rfl
@[simp] theorem wait_freeIndex (d : Duration) : (wait d s).freeIndex = freeIndexAfter s.advances s.freeIndex := rfl

/-! ## chanWrite -/

@[simp] theorem chanWrite_built (f : Frame) : (chanWrite f s).built = s.built := rfl
@[simp] theorem chanWrite_ownAddr (f : Frame) : (chanWrite f s).ownAddr = s.ownAddr := rfl
@[simp] theorem chanWrite_rxState (f : Frame) : (chanWrite f s).rxState = s.rxState := rfl
@[simp] theorem chanWrite_rx (f : Frame) : (chanWrite f s).rx = s.rx := rfl
@[simp] theorem chanWrite_lastBusActivity (f : Frame) : (chanWrite f s).lastBusActivity = s.lastBusActivity := rfl
@[simp] theorem chanWrite_rxFifo (f : Frame) : (chanWrite f s).rxFifo = s.rxFifo := rfl
@[simp] theorem chanWrite_txFifo (f : Frame) : (chanWrite f s).txFifo = s.txFifo := rfl
@[simp] theorem chanWrite_de (f : Frame) : (chanWrite f s).de = s.de := rfl
@[simp] theorem chanWrite_params (f : Frame) : (chanWrite f s).params = s.params := rfl
@[simp] theorem chanWrite_phase (f : Frame) : (chanWrite f s).phase = s.phase := rfl
@[simp] theorem chanWrite_result (f : Frame) : (chanWrite f s).result = s.result := rfl
@[simp] theorem chanWrite_out (f : Frame) : (chanWrite f s).out = s.out ++ [.write f] := rfl
@[simp] theorem chanWrite_commands (f : Frame) : (chanWrite f s).commands = s.commands := rfl
@[simp] theorem chanWrite_chanRx (f : Frame) : (chanWrite f s).chanRx = s.chanRx := rfl
@[simp] theorem chanWrite_chanTx (f : Frame) : (chanWrite f s).chanTx = s.chanTx ++ bytesOnWire s.nextWrite f := rfl
@[simp] theorem chanWrite_advances (f : Frame) : (chanWrite f s).advances = s.advances.tail := rfl
@[simp] theorem chanWrite_writeAnswers (f : Frame) : (chanWrite f s).writeAnswers = s.writeAnswers.tail := rfl
@[simp] theorem chanWrite_doneAnswers (f : Frame) : (chanWrite f s).doneAnswers = s.doneAnswers := rfl
@[simp] theorem chanWrite_flushAnswers (f : Frame) : (chanWrite f s).flushAnswers = s.flushAnswers := rfl

/-! ## chanDone -/

@[simp] theorem chanDone_built : (chanDone s).built = s.built := rfl
@[simp] theorem chanDone_ownAddr : (chanDone s).ownAddr = s.ownAddr := rfl
@[simp] theorem chanDone_rxState : (chanDone s).rxState = s.rxState := rfl
@[simp] theorem chanDone_rx : (chanDone s).rx = s.rx := rfl
@[simp] theorem chanDone_lastBusActivity : (chanDone s).lastBusActivity = s.lastBusActivity := rfl
@[simp] theorem chanDone_rxFifo : (chanDone s).rxFifo = s.rxFifo := rfl
@[simp] theorem chanDone_txFifo : (chanDone s).txFifo = s.txFifo := rfl
@[simp] theorem chanDone_de : (chanDone s).de = s.de := rfl
@[simp] theorem chanDone_params : (chanDone s).params = s.params := rfl
@[simp] theorem chanDone_phase : (chanDone s).phase = s.phase := rfl
@[simp] theorem chanDone_result : (chanDone s).result = s.result := rfl
@[simp] theorem chanDone_out : (chanDone s).out = s.out ++ [.askDone] := rfl
@[simp] theorem chanDone_commands : (chanDone s).commands = s.commands := rfl
@[simp] theorem chanDone_chanRx : (chanDone s).chanRx = s.chanRx := rfl
@[simp] theorem chanDone_chanTx : (chanDone s).chanTx = s.chanTx := rfl
@[simp] theorem chanDone_advances : (chanDone s).advances = s.advances.tail := rfl
@[simp] theorem chanDone_writeAnswers : (chanDone s).writeAnswers = s.writeAnswers := rfl
@[simp] theorem chanDone_doneAnswers : (chanDone s).doneAnswers = s.doneAnswers.tail := rfl
@[simp] theorem chanDone_flushAnswers : (chanDone s).flushAnswers = s.flushAnswers := rfl

/-! ## chanFlush -/

@[simp] theorem chanFlush_built : (chanFlush s).built = s.built := rfl
@[simp] theorem chanFlush_ownAddr : (chanFlush s).ownAddr = s.ownAddr := rfl
@[simp] theorem chanFlush_rxState : (chanFlush s).rxState = s.rxState := rfl
@[simp] theorem chanFlush_rx : (chanFlush s).rx = s.rx := rfl
@[simp] theorem chanFlush_lastBusActivity : (chanFlush s).lastBusActivity = s.lastBusActivity := rfl
@[simp] theorem chanFlush_rxFifo : (chanFlush s).rxFifo = s.rxFifo := rfl
@[simp] theorem chanFlush_txFifo : (chanFlush s).txFifo = s.txFifo := rfl
@[simp] theorem chanFlush_de : (chanFlush s).de = s.de := rfl
@[simp] theorem chanFlush_params : (chanFlush s).params = s.params := rfl
@[simp] theorem chanFlush_phase : (chanFlush s).phase = s.phase := rfl
@[simp] theorem chanFlush_result : (chanFlush s).result = s.result := rfl
@[simp] theorem chanFlush_out : (chanFlush s).out = s.out ++ [.flush] := rfl
@[simp] theorem chanFlush_commands : (chanFlush s).commands = s.commands := rfl
@[simp] theorem chanFlush_chanRx : (chanFlush s).chanRx = s.chanRx := rfl
@[simp] theorem chanFlush_chanTx : (chanFlush s).chanTx = s.chanTx := rfl
@[simp] theorem chanFlush_advances : (chanFlush s).advances = s.advances.tail := rfl
@[simp] theorem chanFlush_writeAnswers : (chanFlush s).writeAnswers = s.writeAnswers := rfl
@[simp] theorem chanFlush_doneAnswers : (chanFlush s).doneAnswers = s.doneAnswers := rfl
@[simp] theorem chanFlush_flushAnswers : (chanFlush s).flushAnswers = s.flushAnswers.tail := rfl

/-! ## setDE -/

@[simp] theorem setDE_built (v : Bool) : (setDE v s).built = s.built := rfl
@[simp] theorem setDE_ownAddr (v : Bool) : (setDE v s).ownAddr = s.ownAddr := rfl
@[simp] theorem setDE_rxState (v : Bool) : (setDE v s).rxState = s.rxState := rfl
@[simp] theorem setDE_rx (v : Bool) : (setDE v s).rx = s.rx := rfl
@[simp] theorem setDE_lastBusActivity (v : Bool) : (setDE v s).lastBusActivity = s.lastBusActivity := rfl
@[simp] theorem setDE_rxFifo (v : Bool) : (setDE v s).rxFifo = s.rxFifo := rfl
@[simp] theorem setDE_txFifo (v : Bool) : (setDE v s).txFifo = s.txFifo := rfl
@[simp] theorem setDE_de (v : Bool) : (setDE v s).de = v := rfl
@[simp] theorem setDE_params (v : Bool) : (setDE v s).params = s.params := rfl
@[simp] theorem setDE_phase (v : Bool) : (setDE v s).phase = s.phase := rfl
@[simp] theorem setDE_result (v : Bool) : (setDE v s).result = s.result := rfl
@[simp] theorem setDE_out (v : Bool) : (setDE v s).out = s.out ++ [.drive v] := rfl
@[simp] theorem setDE_commands (v : Bool) : (setDE v s).commands = s.commands := rfl
@[simp] theorem setDE_chanRx (v : Bool) : (setDE v s).chanRx = s.chanRx := rfl
@[simp] theorem setDE_chanTx (v : Bool) : (setDE v s).chanTx = s.chanTx := rfl
@[simp] theorem setDE_clock (v : Bool) : (setDE v s).clock = s.clock := rfl
@[simp] theorem setDE_advances (v : Bool) : (setDE v s).advances = s.advances := rfl
@[simp] theorem setDE_writeAnswers (v : Bool) : (setDE v s).writeAnswers = s.writeAnswers := rfl
@[simp] theorem setDE_doneAnswers (v : Bool) : (setDE v s).doneAnswers = s.doneAnswers := rfl
@[simp] theorem setDE_flushAnswers (v : Bool) : (setDE v s).flushAnswers = s.flushAnswers := rfl
@[simp] theorem setDE_freeIndex (v : Bool) : (setDE v s).freeIndex = s.freeIndex := rfl

/-! ## pushRx -/

@[simp] theorem pushRx_built (m : Message) : (pushRx m s).built = s.built := rfl
@[simp] theorem pushRx_ownAddr (m : Message) : (pushRx m s).ownAddr = s.ownAddr := rfl
@[simp] theorem pushRx_rxState (m : Message) : (pushRx m s).rxState = s.rxState := rfl
@[simp] theorem pushRx_rx (m : Message) : (pushRx m s).rx = s.rx := rfl
@[simp] theorem pushRx_lastBusActivity (m : Message) : (pushRx m s).lastBusActivity = s.lastBusActivity := rfl
@[simp] theorem pushRx_rxFifo (m : Message) : (pushRx m s).rxFifo = s.rxFifo ++ [m] := rfl
@[simp] theorem pushRx_txFifo (m : Message) : (pushRx m s).txFifo = s.txFifo := rfl
@[simp] theorem pushRx_de (m : Message) : (pushRx m s).de = s.de := rfl
@[simp] theorem pushRx_params (m : Message) : (pushRx m s).params = s.params := rfl
@[simp] theorem pushRx_phase (m : Message) : (pushRx m s).phase = s.phase := rfl
@[simp] theorem pushRx_result (m : Message) : (pushRx m s).result = s.result := rfl
@[simp] theorem pushRx_out (m : Message) : (pushRx m s).out = s.out := rfl
@[simp] theorem pushRx_commands (m : Message) : (pushRx m s).commands = s.commands := rfl
@[simp] theorem pushRx_chanRx (m : Message) : (pushRx m s).chanRx = s.chanRx := rfl
@[simp] theorem pushRx_chanTx (m : Message) : (pushRx m s).chanTx = s.chanTx := rfl
@[simp] theorem pushRx_clock (m : Message) : (pushRx m s).clock = s.clock := rfl
@[simp] theorem pushRx_advances (m : Message) : (pushRx m s).advances = s.advances := rfl
@[simp] theorem pushRx_writeAnswers (m : Message) : (pushRx m s).writeAnswers = s.writeAnswers := rfl
@[simp] theorem pushRx_doneAnswers (m : Message) : (pushRx m s).doneAnswers = s.doneAnswers := rfl
@[simp] theorem pushRx_flushAnswers (m : Message) : (pushRx m s).flushAnswers = s.flushAnswers := rfl
@[simp] theorem pushRx_freeIndex (m : Message) : (pushRx m s).freeIndex = s.freeIndex := rfl

/-! ## popRx -/

@[simp] theorem popRx_built : (popRx s).built = s.built := rfl
@[simp] theorem popRx_ownAddr : (popRx s).ownAddr = s.ownAddr := rfl
@[simp] theorem popRx_rxState : (popRx s).rxState = s.rxState := rfl
@[simp] theorem popRx_rx : (popRx s).rx = s.rx := rfl
@[simp] theorem popRx_lastBusActivity : (popRx s).lastBusActivity = s.lastBusActivity := rfl
@[simp] theorem popRx_rxFifo : (popRx s).rxFifo = s.rxFifo.tail := rfl
@[simp] theorem popRx_txFifo : (popRx s).txFifo = s.txFifo := rfl
@[simp] theorem popRx_de : (popRx s).de = s.de := rfl
@[simp] theorem popRx_params : (popRx s).params = s.params := rfl
@[simp] theorem popRx_phase : (popRx s).phase = s.phase := rfl
@[simp] theorem popRx_result : (popRx s).result = s.result := rfl
@[simp] theorem popRx_out : (popRx s).out = s.out := rfl
@[simp] theorem popRx_commands : (popRx s).commands = s.commands := rfl
@[simp] theorem popRx_chanRx : (popRx s).chanRx = s.chanRx := rfl
@[simp] theorem popRx_chanTx : (popRx s).chanTx = s.chanTx := rfl
@[simp] theorem popRx_clock : (popRx s).clock = s.clock := rfl
@[simp] theorem popRx_advances : (popRx s).advances = s.advances := rfl
@[simp] theorem popRx_writeAnswers : (popRx s).writeAnswers = s.writeAnswers := rfl
@[simp] theorem popRx_doneAnswers : (popRx s).doneAnswers = s.doneAnswers := rfl
@[simp] theorem popRx_flushAnswers : (popRx s).flushAnswers = s.flushAnswers := rfl
@[simp] theorem popRx_freeIndex : (popRx s).freeIndex = s.freeIndex := rfl

/-! ## pushTx -/

@[simp] theorem pushTx_built (f : Frame) : (pushTx f s).built = s.built := rfl
@[simp] theorem pushTx_ownAddr (f : Frame) : (pushTx f s).ownAddr = s.ownAddr := rfl
@[simp] theorem pushTx_rxState (f : Frame) : (pushTx f s).rxState = s.rxState := rfl
@[simp] theorem pushTx_rx (f : Frame) : (pushTx f s).rx = s.rx := rfl
@[simp] theorem pushTx_lastBusActivity (f : Frame) : (pushTx f s).lastBusActivity = s.lastBusActivity := rfl
@[simp] theorem pushTx_rxFifo (f : Frame) : (pushTx f s).rxFifo = s.rxFifo := rfl
@[simp] theorem pushTx_txFifo (f : Frame) : (pushTx f s).txFifo = s.txFifo ++ [f] := rfl
@[simp] theorem pushTx_de (f : Frame) : (pushTx f s).de = s.de := rfl
@[simp] theorem pushTx_params (f : Frame) : (pushTx f s).params = s.params := rfl
@[simp] theorem pushTx_phase (f : Frame) : (pushTx f s).phase = s.phase := rfl
@[simp] theorem pushTx_result (f : Frame) : (pushTx f s).result = s.result := rfl
@[simp] theorem pushTx_out (f : Frame) : (pushTx f s).out = s.out := rfl
@[simp] theorem pushTx_commands (f : Frame) : (pushTx f s).commands = s.commands := rfl
@[simp] theorem pushTx_chanRx (f : Frame) : (pushTx f s).chanRx = s.chanRx := rfl
@[simp] theorem pushTx_chanTx (f : Frame) : (pushTx f s).chanTx = s.chanTx := rfl
@[simp] theorem pushTx_clock (f : Frame) : (pushTx f s).clock = s.clock := rfl
@[simp] theorem pushTx_advances (f : Frame) : (pushTx f s).advances = s.advances := rfl
@[simp] theorem pushTx_writeAnswers (f : Frame) : (pushTx f s).writeAnswers = s.writeAnswers := rfl
@[simp] theorem pushTx_doneAnswers (f : Frame) : (pushTx f s).doneAnswers = s.doneAnswers := rfl
@[simp] theorem pushTx_flushAnswers (f : Frame) : (pushTx f s).flushAnswers = s.flushAnswers := rfl
@[simp] theorem pushTx_freeIndex (f : Frame) : (pushTx f s).freeIndex = s.freeIndex := rfl

/-! ## popTx -/

@[simp] theorem popTx_built : (popTx s).built = s.built := rfl
@[simp] theorem popTx_ownAddr : (popTx s).ownAddr = s.ownAddr := rfl
@[simp] theorem popTx_rxState : (popTx s).rxState = s.rxState := rfl
@[simp] theorem popTx_rx : (popTx s).rx = s.rx := rfl
@[simp] theorem popTx_lastBusActivity : (popTx s).lastBusActivity = s.lastBusActivity := rfl
@[simp] theorem popTx_rxFifo : (popTx s).rxFifo = s.rxFifo := rfl
@[simp] theorem popTx_txFifo : (popTx s).txFifo = s.txFifo.tail := rfl
@[simp] theorem popTx_de : (popTx s).de = s.de := rfl
@[simp] theorem popTx_params : (popTx s).params = s.params := rfl
@[simp] theorem popTx_phase : (popTx s).phase = s.phase := rfl
@[simp] theorem popTx_result : (popTx s).result = s.result := rfl
@[simp] theorem popTx_out : (popTx s).out = s.out := rfl
@[simp] theorem popTx_commands : (popTx s).commands = s.commands := rfl
@[simp] theorem popTx_chanRx : (popTx s).chanRx = s.chanRx := rfl
@[simp] theorem popTx_chanTx : (popTx s).chanTx = s.chanTx := rfl
@[simp] theorem popTx_clock : (popTx s).clock = s.clock := rfl
@[simp] theorem popTx_advances : (popTx s).advances = s.advances := rfl
@[simp] theorem popTx_writeAnswers : (popTx s).writeAnswers = s.writeAnswers := rfl
@[simp] theorem popTx_doneAnswers : (popTx s).doneAnswers = s.doneAnswers := rfl
@[simp] theorem popTx_flushAnswers : (popTx s).flushAnswers = s.flushAnswers := rfl
@[simp] theorem popTx_freeIndex : (popTx s).freeIndex = s.freeIndex := rfl

/-! ## emit -/

@[simp] theorem emit_built (l : List Output) : (emit l s).built = s.built := rfl
@[simp] theorem emit_ownAddr (l : List Output) : (emit l s).ownAddr = s.ownAddr := rfl
@[simp] theorem emit_rxState (l : List Output) : (emit l s).rxState = s.rxState := rfl
@[simp] theorem emit_rx (l : List Output) : (emit l s).rx = s.rx := rfl
@[simp] theorem emit_lastBusActivity (l : List Output) : (emit l s).lastBusActivity = s.lastBusActivity := rfl
@[simp] theorem emit_rxFifo (l : List Output) : (emit l s).rxFifo = s.rxFifo := rfl
@[simp] theorem emit_txFifo (l : List Output) : (emit l s).txFifo = s.txFifo := rfl
@[simp] theorem emit_de (l : List Output) : (emit l s).de = s.de := rfl
@[simp] theorem emit_params (l : List Output) : (emit l s).params = s.params := rfl
@[simp] theorem emit_phase (l : List Output) : (emit l s).phase = s.phase := rfl
@[simp] theorem emit_result (l : List Output) : (emit l s).result = s.result := rfl
@[simp] theorem emit_out (l : List Output) : (emit l s).out = s.out ++ l := rfl
@[simp] theorem emit_commands (l : List Output) : (emit l s).commands = s.commands := rfl
@[simp] theorem emit_chanRx (l : List Output) : (emit l s).chanRx = s.chanRx := rfl
@[simp] theorem emit_chanTx (l : List Output) : (emit l s).chanTx = s.chanTx := rfl
@[simp] theorem emit_clock (l : List Output) : (emit l s).clock = s.clock := rfl
@[simp] theorem emit_advances (l : List Output) : (emit l s).advances = s.advances := rfl
@[simp] theorem emit_writeAnswers (l : List Output) : (emit l s).writeAnswers = s.writeAnswers := rfl
@[simp] theorem emit_doneAnswers (l : List Output) : (emit l s).doneAnswers = s.doneAnswers := rfl
@[simp] theorem emit_flushAnswers (l : List Output) : (emit l s).flushAnswers = s.flushAnswers := rfl
@[simp] theorem emit_freeIndex (l : List Output) : (emit l s).freeIndex = s.freeIndex := rfl

/-! ## goto -/

@[simp] theorem goto_built (st : RxState) : (goto st s).built = s.built := rfl
@[simp] theorem goto_ownAddr (st : RxState) : (goto st s).ownAddr = s.ownAddr := rfl
@[simp] theorem goto_rxState (st : RxState) : (goto st s).rxState = st := rfl
@[simp] theorem goto_rx (st : RxState) : (goto st s).rx = s.rx := rfl
@[simp] theorem goto_lastBusActivity (st : RxState) : (goto st s).lastBusActivity = s.lastBusActivity := rfl
@[simp] theorem goto_rxFifo (st : RxState) : (goto st s).rxFifo = s.rxFifo := rfl
@[simp] theorem goto_txFifo (st : RxState) : (goto st s).txFifo = s.txFifo := rfl
@[simp] theorem goto_de (st : RxState) : (goto st s).de = s.de := rfl
@[simp] theorem goto_params (st : RxState) : (goto st s).params = s.params := rfl
@[simp] theorem goto_phase (st : RxState) : (goto st s).phase = s.phase := rfl
@[simp] theorem goto_result (st : RxState) : (goto st s).result = s.result := rfl
@[simp] theorem goto_out (st : RxState) : (goto st s).out = s.out ++ traceTransition s.params.trace s.rxState st := rfl
@[simp] theorem goto_commands (st : RxState) : (goto st s).commands = s.commands := rfl
@[simp] theorem goto_chanRx (st : RxState) : (goto st s).chanRx = s.chanRx := rfl
@[simp] theorem goto_chanTx (st : RxState) : (goto st s).chanTx = s.chanTx := rfl
@[simp] theorem goto_clock (st : RxState) : (goto st s).clock = s.clock := rfl
@[simp] theorem goto_advances (st : RxState) : (goto st s).advances = s.advances := rfl
@[simp] theorem goto_writeAnswers (st : RxState) : (goto st s).writeAnswers = s.writeAnswers := rfl
@[simp] theorem goto_doneAnswers (st : RxState) : (goto st s).doneAnswers = s.doneAnswers := rfl
@[simp] theorem goto_flushAnswers (st : RxState) : (goto st s).flushAnswers = s.flushAnswers := rfl
@[simp] theorem goto_freeIndex (st : RxState) : (goto st s).freeIndex = s.freeIndex := rfl

/-! ## setRx -/

@[simp] theorem setRx_built (r : Reception) : (setRx r s).built = s.built := rfl
@[simp] theorem setRx_ownAddr (r : Reception) : (setRx r s).ownAddr = s.ownAddr := rfl
@[simp] theorem setRx_rxState (r : Reception) : (setRx r s).rxState = s.rxState := rfl
@[simp] theorem setRx_rx (r : Reception) : (setRx r s).rx = some r := rfl
@[simp] theorem setRx_lastBusActivity (r : Reception) : (setRx r s).lastBusActivity = s.lastBusActivity := rfl
@[simp] theorem setRx_rxFifo (r : Reception) : (setRx r s).rxFifo = s.rxFifo := rfl
@[simp] theorem setRx_txFifo (r : Reception) : (setRx r s).txFifo = s.txFifo := rfl
@[simp] theorem setRx_de (r : Reception) : (setRx r s).de = s.de := rfl
@[simp] theorem setRx_params (r : Reception) : (setRx r s).params = s.params := rfl
@[simp] theorem setRx_phase (r : Reception) : (setRx r s).phase = s.phase := rfl
@[simp] theorem setRx_result (r : Reception) : (setRx r s).result = s.result := rfl
@[simp] theorem setRx_out (r : Reception) : (setRx r s).out = s.out := rfl
@[simp] theorem setRx_commands (r : Reception) : (setRx r s).commands = s.commands := rfl
@[simp] theorem setRx_chanRx (r : Reception) : (setRx r s).chanRx = s.chanRx := rfl
@[simp] theorem setRx_chanTx (r : Reception) : (setRx r s).chanTx = s.chanTx := rfl
@[simp] theorem setRx_clock (r : Reception) : (setRx r s).clock = s.clock := rfl
@[simp] theorem setRx_advances (r : Reception) : (setRx r s).advances = s.advances := rfl
@[simp] theorem setRx_writeAnswers (r : Reception) : (setRx r s).writeAnswers = s.writeAnswers := rfl
@[simp] theorem setRx_doneAnswers (r : Reception) : (setRx r s).doneAnswers = s.doneAnswers := rfl
@[simp] theorem setRx_flushAnswers (r : Reception) : (setRx r s).flushAnswers = s.flushAnswers := rfl
@[simp] theorem setRx_freeIndex (r : Reception) : (setRx r s).freeIndex = s.freeIndex := rfl

/-! ## stamp -/

@[simp] theorem stamp_built : (stamp s).built = s.built := rfl
@[simp] theorem stamp_ownAddr : (stamp s).ownAddr = s.ownAddr := rfl
@[simp] theorem stamp_rxState : (stamp s).rxState = s.rxState := rfl
@[simp] theorem stamp_rx : (stamp s).rx = s.rx := rfl
@[simp] theorem stamp_lastBusActivity : (stamp s).lastBusActivity = s.clock + s.nextAdvance := rfl
@[simp] theorem stamp_rxFifo : (stamp s).rxFifo = s.rxFifo := rfl
@[simp] theorem stamp_txFifo : (stamp s).txFifo = s.txFifo := rfl
@[simp] theorem stamp_de : (stamp s).de = s.de := rfl
@[simp] theorem stamp_params : (stamp s).params = s.params := rfl
@[simp] theorem stamp_phase : (stamp s).phase = s.phase := rfl
@[simp] theorem stamp_result : (stamp s).result = s.result := rfl
@[simp] theorem stamp_out : (stamp s).out = s.out := rfl
@[simp] theorem stamp_commands : (stamp s).commands = s.commands := rfl
@[simp] theorem stamp_chanRx : (stamp s).chanRx = s.chanRx := rfl
@[simp] theorem stamp_chanTx : (stamp s).chanTx = s.chanTx := rfl
@[simp] theorem stamp_clock : (stamp s).clock = s.clock + s.nextAdvance := rfl
@[simp] theorem stamp_advances : (stamp s).advances = s.advances.tail := rfl
@[simp] theorem stamp_writeAnswers : (stamp s).writeAnswers = s.writeAnswers := rfl
@[simp] theorem stamp_doneAnswers : (stamp s).doneAnswers = s.doneAnswers := rfl
@[simp] theorem stamp_flushAnswers : (stamp s).flushAnswers = s.flushAnswers := rfl
@[simp] theorem stamp_freeIndex : (stamp s).freeIndex = freeIndexAfter s.advances s.freeIndex := rfl

/-! ## createReception -/

@[simp] theorem createReception_built : (createReception s).built = s.built := rfl
@[simp] theorem createReception_ownAddr : (createReception s).ownAddr = s.ownAddr := rfl
@[simp] theorem createReception_rxState : (createReception s).rxState = s.rxState := rfl
@[simp] theorem createReception_rx : (createReception s).rx = some (newReception s.clock s.freeIndex) := rfl
@[simp] theorem createReception_lastBusActivity : (createReception s).lastBusActivity = s.lastBusActivity := rfl
@[simp] theorem createReception_rxFifo : (createReception s).rxFifo = s.rxFifo := rfl
@[simp] theorem createReception_txFifo : (createReception s).txFifo = s.txFifo := rfl
@[simp] theorem createReception_de : (createReception s).de = s.de := rfl
@[simp] theorem createReception_params : (createReception s).params = s.params := rfl
@[simp] theorem createReception_phase : (createReception s).phase = s.phase := rfl
@[simp] theorem createReception_result : (createReception s).result = s.result := rfl
@[simp] theorem createReception_out : (createReception s).out = s.out := rfl
@[simp] theorem createReception_commands : (createReception s).commands = s.commands := rfl
@[simp] theorem createReception_chanRx : (createReception s).chanRx = s.chanRx := rfl
@[simp] theorem createReception_chanTx : (createReception s).chanTx = s.chanTx := rfl
@[simp] theorem createReception_clock : (createReception s).clock = s.clock := rfl
@[simp] theorem createReception_advances : (createReception s).advances = s.advances := rfl
@[simp] theorem createReception_writeAnswers : (createReception s).writeAnswers = s.writeAnswers := rfl
@[simp] theorem createReception_doneAnswers : (createReception s).doneAnswers = s.doneAnswers := rfl
@[simp] theorem createReception_flushAnswers : (createReception s).flushAnswers = s.flushAnswers := rfl
@[simp] theorem createReception_freeIndex : (createReception s).freeIndex = s.freeIndex + 1 := rfl

/-! ## discard -/

@[simp] theorem discard_built (c : DiscardCause) : (discard c s).built = s.built := rfl
@[simp] theorem discard_ownAddr (c : DiscardCause) : (discard c s).ownAddr = s.ownAddr := rfl
@[simp] theorem discard_rxState (c : DiscardCause) : (discard c s).rxState = .idle := rfl
@[simp] theorem discard_rx (c : DiscardCause) : (discard c s).rx = none := rfl
@[simp] theorem discard_lastBusActivity (c : DiscardCause) : (discard c s).lastBusActivity = s.lastBusActivity := rfl
@[simp] theorem discard_rxFifo (c : DiscardCause) : (discard c s).rxFifo = s.rxFifo := rfl
@[simp] theorem discard_txFifo (c : DiscardCause) : (discard c s).txFifo = s.txFifo := rfl
@[simp] theorem discard_de (c : DiscardCause) : (discard c s).de = s.de := rfl
@[simp] theorem discard_params (c : DiscardCause) : (discard c s).params = s.params := rfl
@[simp] theorem discard_phase (c : DiscardCause) : (discard c s).phase = s.phase := rfl
@[simp] theorem discard_result (c : DiscardCause) : (discard c s).result = s.result := rfl
@[simp] theorem discard_out (c : DiscardCause) : (discard c s).out = s.out ++ (traceDiscard s.params.trace c s.rxState ++ traceTransition s.params.trace s.rxState .idle) := rfl
@[simp] theorem discard_commands (c : DiscardCause) : (discard c s).commands = s.commands := rfl
@[simp] theorem discard_chanRx (c : DiscardCause) : (discard c s).chanRx = s.chanRx := rfl
@[simp] theorem discard_chanTx (c : DiscardCause) : (discard c s).chanTx = s.chanTx := rfl
@[simp] theorem discard_clock (c : DiscardCause) : (discard c s).clock = s.clock := rfl
@[simp] theorem discard_advances (c : DiscardCause) : (discard c s).advances = s.advances := rfl
@[simp] theorem discard_writeAnswers (c : DiscardCause) : (discard c s).writeAnswers = s.writeAnswers := rfl
@[simp] theorem discard_doneAnswers (c : DiscardCause) : (discard c s).doneAnswers = s.doneAnswers := rfl
@[simp] theorem discard_flushAnswers (c : DiscardCause) : (discard c s).flushAnswers = s.flushAnswers := rfl
@[simp] theorem discard_freeIndex (c : DiscardCause) : (discard c s).freeIndex = s.freeIndex := rfl

/-! ## toPhase -/

@[simp] theorem toPhase_built (p : Phase) : (toPhase p s).built = s.built := rfl
@[simp] theorem toPhase_ownAddr (p : Phase) : (toPhase p s).ownAddr = s.ownAddr := rfl
@[simp] theorem toPhase_rxState (p : Phase) : (toPhase p s).rxState = s.rxState := rfl
@[simp] theorem toPhase_rx (p : Phase) : (toPhase p s).rx = s.rx := rfl
@[simp] theorem toPhase_lastBusActivity (p : Phase) : (toPhase p s).lastBusActivity = s.lastBusActivity := rfl
@[simp] theorem toPhase_rxFifo (p : Phase) : (toPhase p s).rxFifo = s.rxFifo := rfl
@[simp] theorem toPhase_txFifo (p : Phase) : (toPhase p s).txFifo = s.txFifo := rfl
@[simp] theorem toPhase_de (p : Phase) : (toPhase p s).de = s.de := rfl
@[simp] theorem toPhase_params (p : Phase) : (toPhase p s).params = s.params := rfl
@[simp] theorem toPhase_phase (p : Phase) : (toPhase p s).phase = p := rfl
@[simp] theorem toPhase_result (p : Phase) : (toPhase p s).result = s.result := rfl
@[simp] theorem toPhase_out (p : Phase) : (toPhase p s).out = s.out := rfl
@[simp] theorem toPhase_commands (p : Phase) : (toPhase p s).commands = s.commands := rfl
@[simp] theorem toPhase_chanRx (p : Phase) : (toPhase p s).chanRx = s.chanRx := rfl
@[simp] theorem toPhase_chanTx (p : Phase) : (toPhase p s).chanTx = s.chanTx := rfl
@[simp] theorem toPhase_clock (p : Phase) : (toPhase p s).clock = s.clock := rfl
@[simp] theorem toPhase_advances (p : Phase) : (toPhase p s).advances = s.advances := rfl
@[simp] theorem toPhase_writeAnswers (p : Phase) : (toPhase p s).writeAnswers = s.writeAnswers := rfl
@[simp] theorem toPhase_doneAnswers (p : Phase) : (toPhase p s).doneAnswers = s.doneAnswers := rfl
@[simp] theorem toPhase_flushAnswers (p : Phase) : (toPhase p s).flushAnswers = s.flushAnswers := rfl
@[simp] theorem toPhase_freeIndex (p : Phase) : (toPhase p s).freeIndex = s.freeIndex := rfl

/-! ## respond -/

@[simp] theorem respond_built (r : Result) : (respond r s).built = s.built := rfl
@[simp] theorem respond_ownAddr (r : Result) : (respond r s).ownAddr = s.ownAddr := rfl
@[simp] theorem respond_rxState (r : Result) : (respond r s).rxState = s.rxState := rfl
@[simp] theorem respond_rx (r : Result) : (respond r s).rx = s.rx := rfl
@[simp] theorem respond_lastBusActivity (r : Result) : (respond r s).lastBusActivity = s.lastBusActivity := rfl
@[simp] theorem respond_rxFifo (r : Result) : (respond r s).rxFifo = s.rxFifo := rfl
@[simp] theorem respond_txFifo (r : Result) : (respond r s).txFifo = s.txFifo := rfl
@[simp] theorem respond_de (r : Result) : (respond r s).de = s.de := rfl
@[simp] theorem respond_params (r : Result) : (respond r s).params = s.params := rfl
@[simp] theorem respond_phase (r : Result) : (respond r s).phase = s.phase := rfl
@[simp] theorem respond_result (r : Result) : (respond r s).result = r := rfl
@[simp] theorem respond_out (r : Result) : (respond r s).out = s.out := rfl
@[simp] theorem respond_commands (r : Result) : (respond r s).commands = s.commands := rfl
@[simp] theorem respond_chanRx (r : Result) : (respond r s).chanRx = s.chanRx := rfl
@[simp] theorem respond_chanTx (r : Result) : (respond r s).chanTx = s.chanTx := rfl
@[simp] theorem respond_clock (r : Result) : (respond r s).clock = s.clock := rfl
@[simp] theorem respond_advances (r : Result) : (respond r s).advances = s.advances := rfl
@[simp] theorem respond_writeAnswers (r : Result) : (respond r s).writeAnswers = s.writeAnswers := rfl
@[simp] theorem respond_doneAnswers (r : Result) : (respond r s).doneAnswers = s.doneAnswers := rfl
@[simp] theorem respond_flushAnswers (r : Result) : (respond r s).flushAnswers = s.flushAnswers := rfl
@[simp] theorem respond_freeIndex (r : Result) : (respond r s).freeIndex = s.freeIndex := rfl

end Sys2Proof.Machine
end

