-- ==== Sys2Proof/Laws/Ops.lean ====
section
/-! SUPPORT. Laws/Ops.lean: what the shared operations can do: each guard answers exactly when its condition holds, and
one inversion lemma says what a next state came from. -/

namespace Sys2Proof.Machine

section Guards

variable {s t : State} {body : Answer}

theorem hostOp_ready (h : s.phase = .idle) (hb : s.built = true) : hostOp s body = body := by simp [hostOp, h, hb]

theorem hostOp_next : hostOp s body = .next t ↔ s.phase = .idle ∧ s.built = true ∧ body = .next t := by
  unfold hostOp; split <;> (try split) <;> simp_all

theorem portOp_ready (h : s.phase = .idle) : portOp s body = body := by simp [portOp, h]

theorem portOp_next : portOp s body = .next t ↔ s.phase = .idle ∧ body = .next t := by
  unfold portOp; split <;> simp_all

theorem inPhase_next {p : Phase} : inPhase s p body = .next t ↔ s.phase = p ∧ body = .next t := by
  unfold inPhase; split <;> simp_all

theorem inPhase_here {p : Phase} (h : s.phase = p) : inPhase s p body = body := by simp [inPhase, h]

theorem atIdle_next {c : Bool} : atIdle s c body = .next t ↔ s.rxState = .idle ∧ c = true ∧ body = .next t := by
  unfold atIdle; split <;> (try split) <;> simp_all

theorem atRow_next {st : RxState} {c : Reception → Bool} {k : Reception → Answer} :
    atRow s st c k = .next t ↔ s.rxState = st ∧ ∃ r, s.rx = some r ∧ c r = true ∧ k r = .next t := by
  unfold atRow
  split
  · split
    · split <;> simp_all
    · simp_all
  · simp_all

theorem atRow_here {st : RxState} {c : Reception → Bool} {k : Reception → Answer} {r : Reception}
    (h : s.rxState = st) (hr : s.rx = some r) (hc : c r = true) : atRow s st c k = k r := by
  simp [atRow, h, hr, hc]

end Guards

/-! ## Reading the clock and the byte stamp -/

theorem readClock_eq (s : State) : readClock s = s.clockSeen (s.clock + s.nextAdvance) := rfl

theorem stamp_eq (s : State) : stamp s = s.byteSeen (s.clock + s.nextAdvance) := rfl

theorem passTime_clock_le (n : Nat) (s : State) : s.clock ≤ (passTime n s).clock := by simp; omega

theorem discard_stamp (c : DiscardCause) (s : State) :
    discard c (stamp s) = s.dropped (s.clock + s.nextAdvance) c := rfl

theorem goto_setRx_stamp (st : RxState) (r : Reception) (s : State) :
    goto st (setRx r (stamp s)) = s.advanced (s.clock + s.nextAdvance) st r := rfl

theorem wait_clock_le (d : Duration) (s : State) : s.clock + d.floorMs ≤ (wait d s).clock := by simp

end Sys2Proof.Machine
end

