-- ==== Sys2Proof/Laws/Step.lean ====
section
/-! SUPPORT. Laws/Step.lean: what a step can do, said once: a next state comes from being passive, from a host operation
off the port, from one received byte, or from the row of a phase. -/

namespace Sys2Proof.Machine

/-- The phases that take no outside word. -/
theorem fetch_phase {s : State} (h1 : s.phase ≠ .idle) (h2 : s.phase ≠ .drain) : fetch s = fetchPhase s := by
  unfold fetch; split <;> simp_all

/-- The state from which the gate runs at the end of a drain: at most the mark that ended it has been taken. -/
theorem fetchWire_cases (s : State) :
    (∃ b rest, s.chanRx = .byte b :: rest ∧
      fetchWire s = .work (.wire (wireContext s)) (.byte b) { s with chanRx := rest }) ∨
    (∃ rest, s.chanRx = .failure :: rest ∧ fetchWire s = .refuse .receiveFailure) ∨
    (∃ rest, (s.chanRx = .noByte :: rest ∨ s.chanRx = .silence :: rest ∨ s.chanRx = [] ∧ rest = []) ∧
      fetchWire s = fetchPhase { s with chanRx := rest }) := by
  rcases h : s.chanRx with _ | ⟨x, rest⟩
  · refine .inr (.inr ⟨[], by simp, ?_⟩)
    simp [fetchWire, chanAvail, dropSilence, h]
    rw [← h]
  · cases x <;> simp [fetchWire, chanAvail, dropSilence, h]

/-- Inversion: where a next state comes from. -/
theorem step_next_cases {s t : State} (h : step s = .next t) :
    (s.phase = .idle ∧ s.commands = [] ∧ t = s) ∨
    (∃ c rest, s.phase = .idle ∧ s.commands = c :: rest ∧
      exec (decodeCommand c) { s with commands := rest } = .next t) ∨
    (∃ b rest, s.phase = .drain ∧ s.chanRx = .byte b :: rest ∧
      exec (decodeWire (wireContext s) b) { s with chanRx := rest } = .next t) ∨
    (∃ i rest, s.phase ≠ .idle ∧ decodePhase s.phase s.params.completion = .instr i ∧
      (rest = s.chanRx ∨ s.phase = .drain ∧ (s.chanRx = .noByte :: rest ∨ s.chanRx = .silence :: rest)) ∧
      exec i { s with chanRx := rest } = .next t) := by
  by_cases hi : s.phase = .idle
  · have hf : fetch s = fetchCommand s := by simp [fetch, hi]
    rcases hc : s.commands with _ | ⟨c, rest⟩
    · simp only [step, hf, fetchCommand, hc] at h
      simp at h
      exact .inl ⟨hi, rfl, h.symm⟩
    · simp only [step, hf, fetchCommand, hc, decode] at h
      exact .inr (.inl ⟨c, rest, hi, rfl, h⟩)
  · by_cases hd : s.phase = .drain
    · have hf : fetch s = fetchWire s := by simp [fetch, hd]
      rcases fetchWire_cases s with ⟨b, rest, hb, hw⟩ | ⟨rest, _, hw⟩ | ⟨rest, hr, hw⟩
      · simp only [step, hf, hw, decode] at h
        exact .inr (.inr (.inl ⟨b, rest, hd, hb, h⟩))
      · simp [step, hf, hw] at h
      · simp only [step, hf, hw, fetchPhase, decode, hd, decodePhase] at h
        refine .inr (.inr (.inr ⟨.txGate, rest, hi, by simp [hd, decodePhase], ?_, by simpa [hd] using h⟩))
        rcases hr with hr | hr | ⟨hr, rfl⟩
        · exact .inr ⟨hd, .inl hr⟩
        · exact .inr ⟨hd, .inr hr⟩
        · exact .inl hr.symm
    · simp only [step, fetch_phase hi hd, fetchPhase, decode] at h
      split at h
      · rename_i i hdec
        exact .inr (.inr (.inr ⟨i, s.chanRx, hi, hdec, .inl rfl, h⟩))
      · simp at h

/-- In every phase but the first two a step is the phase's row. -/
theorem step_phase {s : State} {i : Instr} (h1 : s.phase ≠ .idle) (h2 : s.phase ≠ .drain)
    (hi : decodePhase s.phase s.params.completion = .instr i) : step s = exec i s := by
  simp [step, fetch_phase h1 h2, fetchPhase, decode, hi]

/-- In the drain a step is the row of the next received byte. -/
theorem step_byte {s : State} {b : Byte} {rest : List RxItem} (h1 : s.phase = .drain) (h2 : s.chanRx = .byte b :: rest) :
    step s = exec (decodeWire (wireContext s) b) { s with chanRx := rest } := by
  simp [step, fetch, h1, fetchWire, chanAvail, h2, decode]

/-- Between host operations a step is the row of the next command. -/
theorem step_command {s : State} {c : Command} {rest : List Command} (h1 : s.phase = .idle) (h2 : s.commands = c :: rest) :
    step s = exec (decodeCommand c) { s with commands := rest } := by
  have hf : fetch s = fetchCommand s := by simp [fetch, h1]
  simp [step, hf, fetchCommand, h2, decode]

/-- A drain that ends, by a list that is used up or by a mark that the drain takes, goes on with the gate. -/
theorem step_gate {s : State} {rest : List RxItem} (h1 : s.phase = .drain)
    (h2 : (s.chanRx = [] ∧ rest = s.chanRx) ∨ s.chanRx = .noByte :: rest ∨ s.chanRx = .silence :: rest) :
    step s = exec .txGate { s with chanRx := rest } := by
  have hf : fetch s = fetchWire s := by simp [fetch, h1]
  rcases h2 with ⟨h2, rfl⟩ | h2 | h2
  · have hw : fetchWire s = fetchPhase s := by simp [fetchWire, chanAvail, h2, dropSilence]
    have hs : step s = exec .txGate s := by simp [step, hf, hw, fetchPhase, h1, decode, decodePhase]
    rw [hs]
  all_goals simp [step, hf, fetchWire, chanAvail, dropSilence, h2, fetchPhase, h1, decode, decodePhase]

/-- A run peels off its first step. -/
theorem run_succ_of {M : Host.Core} {k : Nat} {s s' : M.State} (h : M.step s = .next s') : M.run (k + 1) s = M.run k s' := by
  simp [Host.Core.run, h]

/-- The same, in this machine's own names. -/
theorem run_succ {k : Nat} {s s' : State} (h : step s = .next s') :
    Sys2Proof.core.run (k + 1) s = Sys2Proof.core.run k s' := run_succ_of (M := Sys2Proof.core) h

end Sys2Proof.Machine
end

