-- ==== Sys2Proof/Laws/Effects.lean ====
section
/-! SUPPORT. Laws/Effects.lean: what each kind of unit of work can do, said once: a received byte, a host operation, a row
of the sequencer. Later proofs about every step cite these instead of unfolding the meanings. -/

set_option Elab.async false

namespace Sys2Proof.Machine

/-- The address operand check is `a <= 254` on a byte (rules R120, R230, R252). -/
theorem addrOperandOk_eq (a : Byte) : addrOperandOk a = decide (a.toNat ≤ 254) := by
  simp [addrOperandOk, isValidNodeAddr]

/-- One received byte: what it may change, where the receiver goes, what it delivers, when it stamps the activity. -/
theorem wire_effect {s t : State} {b : Byte} (he : exec (decodeWire (wireContext s) b) s = .next t) :
    t = { s with
      rx := t.rx, rxState := t.rxState, lastBusActivity := t.lastBusActivity, rxFifo := t.rxFifo,
      out := t.out, clock := t.clock, advances := t.advances, freeIndex := t.freeIndex } ∧
    (t.rxState = s.rxState ∨ t.rxState = .idle ∨ t.rxState.number = s.rxState.number + 1) ∧
    (t.rxFifo = s.rxFifo ∨ (∃ r, s.rxState = .crcOk ∧ s.rx = some r ∧ b = 4#8 ∧ t.rxFifo = s.rxFifo ++ [messageOf r])) ∧
    (t.lastBusActivity = s.lastBusActivity ∨ (t.lastBusActivity = t.clock ∧ ¬(s.rxState = .idle ∧ b = 0#8))) ∧
    s.clock ≤ t.clock := by
  have h2 : (wireContext s).rxState = s.rxState := by unfold wireContext; split <;> rfl
  unfold decodeWire at he
  rw [h2] at he
  cases hst : s.rxState <;> rw [hst] at he <;> simp only at he
  · split at he
    · simp [exec, execIdleNul, atIdle_next] at he
      obtain ⟨_, rfl⟩ := he
      exact ⟨rfl, by simp [hst], by simp, by simp, by simp⟩
    · split at he
      · simp [exec, execIdleSoh, atIdle_next] at he
        obtain ⟨_, rfl⟩ := he
        rename_i h0 _ _
        exact ⟨rfl, by simp [RxState.number], by simp, by right; exact ⟨by simp, by simpa [NUL] using h0⟩, by simp⟩
      · simp [exec, execIdleOther, atIdle_next] at he
        obtain ⟨_, _, rfl⟩ := he
        rename_i h0 _ _ _
        exact ⟨rfl, by simp [hst], by simp, by right; exact ⟨by simp, by simpa [NUL] using h0⟩, by simp⟩
  · split at he
    · simp [exec, execSohDstAccept, atRow_next] at he
      obtain ⟨_, r, hr, _, rfl⟩ := he
      exact ⟨rfl, by simp [RxState.number], by simp, by simp, by simp⟩
    · simp [exec, execSohDstReject, atRow_next] at he
      obtain ⟨_, r, hr, rfl⟩ := he
      exact ⟨rfl, by simp [RxState.number], by simp, by simp, by simp⟩
  · simp [exec, execDestSrc, atRow_next] at he
    obtain ⟨_, r, hr, rfl⟩ := he
    exact ⟨rfl, by simp [RxState.number], by simp, by simp, by simp⟩
  · simp [exec, execSrcTid, atRow_next] at he
    obtain ⟨_, r, hr, rfl⟩ := he
    exact ⟨rfl, by simp [RxState.number], by simp, by simp, by simp⟩
  · split at he
    · simp [exec, execTidLenZero, atRow_next] at he
      obtain ⟨_, _, rfl⟩ := he
      exact ⟨rfl, by simp [RxState.number], by simp, by simp, by simp⟩
    · simp [exec, execTidLenOk, atRow_next] at he
      obtain ⟨_, r, hr, _, rfl⟩ := he
      exact ⟨rfl, by simp [RxState.number], by simp, by simp, by simp⟩
  · split at he
    · simp [exec, execLenStx, atRow_next] at he
      obtain ⟨_, ⟨r, hr⟩, rfl⟩ := he
      exact ⟨rfl, by simp [RxState.number], by simp, by simp, by simp⟩
    · simp [exec, execLenOther, atRow_next] at he
      obtain ⟨_, _, _, rfl⟩ := he
      exact ⟨rfl, by simp [RxState.number], by simp, by simp, by simp⟩
  · split at he
    · split at he
      · simp [exec, execStxEncHigh, atRow_next] at he
        obtain ⟨_, r, hr, _, rfl⟩ := he
        exact ⟨rfl, by simp [hst], by simp, by simp, by simp⟩
      · simp [exec, execStxEncLow, atRow_next] at he
        obtain ⟨_, r, hr, _, rfl⟩ := he
        exact ⟨rfl, by simp [hst], by simp, by simp, by simp⟩
    · split at he
      · simp only [exec, execStxEtx, atRow_next] at he
        obtain ⟨_, r, hr, _, he⟩ := he
        split at he <;> simp at he <;> subst he <;> exact ⟨rfl, by simp [RxState.number], by simp, by simp, by simp⟩
      · simp [exec, execStxOther, atRow_next] at he
        obtain ⟨_, _, _, rfl⟩ := he
        exact ⟨rfl, by simp [RxState.number], by simp, by simp, by simp⟩
  · split at he
    · simp [exec, execEtxCrcMatch, atRow_next] at he
      obtain ⟨_, r, hr, _, rfl⟩ := he
      exact ⟨rfl, by simp [RxState.number], by simp, by simp, by simp⟩
    · simp [exec, execEtxCrcMismatch, atRow_next] at he
      obtain ⟨_, r, hr, _, rfl⟩ := he
      exact ⟨rfl, by simp [RxState.number], by simp, by simp, by simp⟩
  · split at he
    · rename_i hb
      simp only [exec, execCrcOkEot, atRow_next] at he
      obtain ⟨_, r, hr, _, he⟩ := he
      unfold deliver at he
      split at he <;> simp at he <;> subst he
      · exact ⟨rfl, by simp [RxState.number], by simp, by simp, by simp⟩
      · refine ⟨rfl, by simp [RxState.number], ?_, by simp, by simp⟩
        right; exact ⟨r, rfl, hr, by simpa [EOT] using hb, by simp⟩
    · simp [exec, execCrcOkOther, atRow_next] at he
      obtain ⟨_, _, _, rfl⟩ := he
      exact ⟨rfl, by simp [RxState.number], by simp, by simp, by simp⟩

/-- The shared part of ENQUEUE and REPLY: an error that changes only the answer, or one frame at the tail. -/
theorem enqueueFrame_effect (s : State) (d p t) :
    (enqueueFrame d p t s = { s with result := (enqueueFrame d p t s).result }) ∨
    (1 ≤ p.length ∧ p.length ≤ 255 ∧
      enqueueFrame d p t s =
        { s with result := .status .ok, txFifo := s.txFifo ++ [frameBytes d s.ownAddr t p] }) := by
  unfold enqueueFrame
  split
  · left; rfl
  · split
    · left; rfl
    · right
      rename_i h1 h2
      simp [payloadLengthOk, MAX_PAYLOAD] at h1
      exact ⟨by have := List.length_pos_iff.mpr h1.1; omega, by simpa using of_decide_eq_true h1.2, rfl⟩

/-- One host operation: a CONSTRUCT, an answer alone, a SET_ADDR, a READ, or a queued frame. -/
theorem host_effect {s t : State} {c : Command} (he : exec (decodeCommand c) s = .next t) :
    (c.code = 0#4 ∧ (t = { s with result := t.result } ∨
      (t.params = { s.params with addr := c.addr, settle := c.settle, baud := c.baud, completion := c.completion } ∧
        t.ownAddr = c.addr ∧ c.addr.toNat ≤ 254 ∧ t.rxState = .idle ∧ t.rxFifo = [] ∧ t.txFifo = [] ∧ t.de = false ∧
        t.lastBusActivity = t.clock ∧ s.clock ≤ t.clock))) ∨
    (t = { s with phase := t.phase, result := t.result }) ∨
    (c.code = 7#4 ∧ t = { s with ownAddr := c.addr, result := t.result } ∧ c.addr.toNat ≤ 254) ∨
    (c.code = 5#4 ∧ ∃ m, s.rxFifo = m :: t.rxFifo ∧ t = { s with rxFifo := t.rxFifo, result := t.result }) ∨
    (1 ≤ c.payload.length ∧ c.payload.length ≤ 255 ∧
      ((c.code = 2#4 ∧
          t = { s with
            result := t.result, txFifo := s.txFifo ++ [frameBytes c.addr s.ownAddr c.tid c.payload] }) ∨
        (c.code = 9#4 ∧ (c.message.dst = 255#8 → c.override = true) ∧
          t = { s with
            result := t.result
            txFifo := s.txFifo ++ [frameBytes c.message.src s.ownAddr c.message.tid c.payload] }))) := by
  have hc : ∀ n : Nat, c.code.toNat = n → n < 16 → c.code = BitVec.ofNat 4 n := by
    intro n h hn; apply BitVec.eq_of_toNat_eq; simp; omega
  unfold decodeCommand at he
  split at he
  · rename_i hcode
    left; refine ⟨hc 0 hcode (by omega), ?_⟩
    simp only [exec, execConstruct, portOp_next] at he
    obtain ⟨hp, he⟩ := he
    split at he
    · simp at he; left; rw [← he]; rfl
    · split at he
      · simp at he; left; rw [← he]; rfl
      · split at he
        · simp at he
        · simp at he
          rename_i h1 h2 h3
          right; subst he
          rw [addrOperandOk_eq] at h1
          simp at h1
          simp [constructed, respond, Config.lbaReset]; omega
  · simp [exec, execTick, hostOp_next] at he
    right; left; rw [← he.2.2]; rfl
  · rename_i hcode
    simp [exec, execEnqueue, hostOp_next] at he
    obtain ⟨_, _, rfl⟩ := he
    rcases enqueueFrame_effect s c.addr c.payload c.tid with h | ⟨h1, h2, h⟩
    · right; left; rw [h]
    · right; right; right; right; exact ⟨h1, h2, .inl ⟨hc 2 hcode (by omega), by rw [h]⟩⟩
  · simp [exec, execPending, hostOp_next] at he
    right; left; rw [← he.2.2]; rfl
  · simp [exec, execAvailable, hostOp_next] at he
    right; left; rw [← he.2.2]; rfl
  · rename_i hcode
    simp only [exec, execRead, hostOp_next] at he
    obtain ⟨hp, hb, he⟩ := he
    split at he
    · simp at he; right; left; rw [← he]; rfl
    · simp at he; rename_i m ms hm
      right; right; right; left; refine ⟨hc 5 hcode (by omega), m, ?_, ?_⟩ <;> subst he
      · simp [hm]
      · rfl
  · simp [exec, execGetAddr, hostOp_next] at he
    right; left; rw [← he.2.2]; rfl
  · rename_i hcode
    simp only [exec, execSetAddr, hostOp_next] at he
    obtain ⟨hp, hb, he⟩ := he
    split at he
    · simp at he; rename_i ha; rw [addrOperandOk_eq] at ha
      right; right; left; refine ⟨hc 7 hcode (by omega), by subst he; rfl, by simpa using ha⟩
    · simp at he; right; left; rw [← he]; rfl
  · simp [exec, execIsBroadcast, hostOp_next] at he
    right; left; rw [← he.2.2]; rfl
  · rename_i hcode
    simp only [exec, execReply, hostOp_next] at he
    obtain ⟨hp, hb, he⟩ := he
    split at he
    · simp at he; right; left; rw [← he]; rfl
    · rename_i hb
      simp at he
      subst he
      simp only [BROADCAST, Bool.and_eq_true, beq_iff_eq, Bool.not_eq_true', not_and, Bool.not_eq_false] at hb
      rcases enqueueFrame_effect s c.message.src c.payload c.message.tid with h | ⟨h1, h2, h⟩
      · right; left; rw [h]
      · right; right; right; right; exact ⟨h1, h2, .inr ⟨hc 9 hcode (by omega), hb, by rw [h]⟩⟩
  all_goals
    simp [exec, execUnassignedAB, execUnassignedCF, portOp_next] at he
    right; left; rw [← he.2]; rfl

/-- One row of the sequencer: what it never changes, and who writes the output, the queue and the stamp. -/
theorem phase_effect {s t : State} {p : Phase} {m : Completion} {i}
    (hi : decodePhase p m = .instr i) (he : exec i s = .next t) :
    t.ownAddr = s.ownAddr ∧ t.rxFifo = s.rxFifo ∧ t.built = s.built ∧ t.commands = s.commands ∧ t.params = s.params ∧
    s.clock ≤ t.clock ∧
    (t.de = s.de ∨ (s.phase = .assertDe ∧ t.de = true) ∨ ((∃ ok, s.phase = .deassert ok) ∧ t.de = false)) ∧
    (t.rxState = s.rxState ∨ t.rxState = .idle) ∧
    (t.txFifo = s.txFifo ∨ (s.phase = .commit ∧ t.txFifo = s.txFifo.tail)) ∧
    (t.lastBusActivity = s.lastBusActivity ∨ (t.lastBusActivity = t.clock ∧ s.phase = .commit)) := by
  unfold decodePhase at hi
  split at hi <;> try (simp at hi; done)
  · simp at hi; subst hi
    simp only [exec, execTxGate, inPhase_next] at he
    obtain ⟨hp, he⟩ := he
    split at he
    · simp at he; subst he; simp
    · split at he <;> (simp at he; subst he; simp)
  · simp at hi; subst hi
    simp [exec, execTxAssert, inPhase_next] at he
    obtain ⟨hp, rfl⟩ := he
    simp [hp]
  · simp at hi; subst hi
    simp [exec, execTxSettle1, inPhase_next] at he
    obtain ⟨hp, rfl⟩ := he
    simp; omega
  · simp at hi; subst hi
    simp only [exec, execTxWrite, inPhase_next] at he
    obtain ⟨hp, he⟩ := he
    split at he <;> (simp at he; subst he; simp [chanWrite])
  · split at hi
    · simp at hi; subst hi
      simp only [exec, execTxCompleteExact, inPhase_next] at he
      obtain ⟨hp, he⟩ := he
      split at he
      · split at he <;> (simp at he; subst he; simp [chanDone])
      · simp at he
    · simp at hi; subst hi
      simp only [exec, execTxCompleteFlushEstimate, inPhase_next] at he
      obtain ⟨hp, he⟩ := he
      split at he
      · split at he
        · (simp at he; subst he; simp [chanFlush])
        · split at he
          · (simp at he; subst he; simp [chanFlush]; omega)
          · simp at he
      · simp at he
    · simp at hi; subst hi
      simp only [exec, execTxCompleteEstimate, inPhase_next] at he
      obtain ⟨hp, he⟩ := he
      split at he
      · split at he
        · (simp at he; subst he; simp; omega)
        · simp at he
      · simp at he
  · simp at hi; subst hi
    simp only [exec, execTxDeassert] at he
    split at he
    · rename_i hp; simp at he; subst he; simp [hp]
    · simp at he
  · simp at hi; subst hi
    simp only [exec, execTxSettle2] at he
    split at he
    · rename_i ok hp; simp at he; subst he; simp; omega
    · simp at he
  · simp at hi; subst hi
    simp [exec, execTxCommit, inPhase_next] at he
    obtain ⟨hp, rfl⟩ := he
    simp [hp]
  · simp at hi; subst hi
    simp [exec, execTxFail, inPhase_next] at he
    obtain ⟨hp, rfl⟩ := he
    simp
  · simp at hi; subst hi
    simp only [exec, execRxTimeout] at he
    split at he
    · rename_i r hp
      unfold rxTimeoutCheck at he
      split at he
      · simp at he; subst he; simp
      · split at he
        · split at he
          · simp at he; subst he; simp
          · simp at he; subst he; simp
        · simp at he
    · simp at he

end Sys2Proof.Machine
end

