-- ==== Sys2Proof/Laws/PerInstr.lean ====
section
/-! SUPPORT. Laws/PerInstr.lean: for each row, its encoding decodes back to it wherever a context selects the row. -/

set_option Elab.async false

namespace Sys2Proof.Laws.SelectedWordDecodes

/-- Decoding the row's own word, in any context that selects the row, gives the row with every operand. -/
def Statement (i : Instr) : Prop :=
  ∀ x : Context, x.selects i = true → i.wellFormed = true → decode x (encode i) = .instr i

theorem idleNul : Statement .idleNul := by
  intro x hs hw
  cases x <;> simp_all [Context.selects, Instr.wellFormed, encode, decode, decodeWire, NUL]

theorem idleSoh : Statement .idleSoh := by
  intro x hs hw
  cases x <;> simp_all [Context.selects, Instr.wellFormed, encode, decode, decodeWire, NUL, SOH]

theorem idleOther (b : Byte) : Statement (.idleOther b) := by
  intro x hs hw
  cases x <;> simp_all [Context.selects, Instr.wellFormed, encode, decode, decodeWire, NUL, SOH]

theorem sohDstAccept (dst : Byte) : Statement (.sohDstAccept dst) := by
  intro x hs hw
  cases x <;> simp_all [Context.selects, Instr.wellFormed, encode, decode, decodeWire, BROADCAST]

theorem sohDstReject (dst : Byte) : Statement (.sohDstReject dst) := by
  intro x hs hw
  cases x <;> simp_all [Context.selects, Instr.wellFormed, encode, decode, decodeWire, BROADCAST]

theorem destSrc (src : Byte) : Statement (.destSrc src) := by
  intro x hs hw
  cases x <;> simp_all [Context.selects, Instr.wellFormed, encode, decode, decodeWire]

theorem srcTid (tid : Byte) : Statement (.srcTid tid) := by
  intro x hs hw
  cases x <;> simp_all [Context.selects, Instr.wellFormed, encode, decode, decodeWire]

theorem tidLenOk (len : Byte) : Statement (.tidLenOk len) := by
  intro x hs hw
  cases x <;> simp_all [Context.selects, Instr.wellFormed, encode, decode, decodeWire]

theorem tidLenZero : Statement .tidLenZero := by
  intro x hs hw
  cases x <;> simp_all [Context.selects, Instr.wellFormed, encode, decode, decodeWire]

theorem lenStx : Statement .lenStx := by
  intro x hs hw
  cases x <;> simp_all [Context.selects, Instr.wellFormed, encode, decode, decodeWire, STX]

theorem lenOther (b : Byte) : Statement (.lenOther b) := by
  intro x hs hw
  cases x <;> simp_all [Context.selects, Instr.wellFormed, encode, decode, decodeWire, STX]

theorem stxEncHigh (h c : Nibble) : Statement (.stxEncHigh h c) := by
  intro x hs hw
  cases x <;> simp_all [Context.selects, Instr.wellFormed, encode, decode, decodeWire, validByte_join]

theorem stxEncLow (c l : Nibble) : Statement (.stxEncLow c l) := by
  intro x hs hw
  cases x <;> simp_all [Context.selects, Instr.wellFormed, encode, decode, decodeWire, validByte_join]

theorem stxEtx : Statement .stxEtx := by
  intro x hs _
  cases x <;> simp_all [Context.selects, encode, decode, decodeWire, ETX, (by decide : validByte 3#8 = false)]

theorem stxOther (b : Byte) : Statement (.stxOther b) := by
  intro x hs hw
  cases x <;> simp_all [Context.selects, Instr.wellFormed, encode, decode, decodeWire, ETX]

theorem etxCrcMatch (crc : Byte) : Statement (.etxCrcMatch crc) := by
  intro x hs hw
  cases x <;> simp_all [Context.selects, Instr.wellFormed, encode, decode, decodeWire]

theorem etxCrcMismatch (crc : Byte) : Statement (.etxCrcMismatch crc) := by
  intro x hs hw
  cases x <;> simp_all [Context.selects, Instr.wellFormed, encode, decode, decodeWire]

theorem crcOkEot : Statement .crcOkEot := by
  intro x hs hw
  cases x <;> simp_all [Context.selects, Instr.wellFormed, encode, decode, decodeWire, EOT]

theorem crcOkOther (b : Byte) : Statement (.crcOkOther b) := by
  intro x hs hw
  cases x <;> simp_all [Context.selects, Instr.wellFormed, encode, decode, decodeWire, EOT]

theorem rxTimeout : Statement .rxTimeout := by
  intro x hs _
  cases x with
  | sequencer p mode => cases p <;> simp [Context.selects] at hs; rfl
  | _ => simp [Context.selects] at hs

theorem symNul : Statement .symNul := by
  intro x hs _
  cases x with
  | symbol => rfl
  | _ => simp [Context.selects] at hs

theorem symSoh : Statement .symSoh := by
  intro x hs _
  cases x with
  | symbol => rfl
  | _ => simp [Context.selects] at hs

theorem symStx : Statement .symStx := by
  intro x hs _
  cases x with
  | symbol => rfl
  | _ => simp [Context.selects] at hs

theorem symEtx : Statement .symEtx := by
  intro x hs _
  cases x with
  | symbol => rfl
  | _ => simp [Context.selects] at hs

theorem symEot : Statement .symEot := by
  intro x hs _
  cases x with
  | symbol => rfl
  | _ => simp [Context.selects] at hs

theorem symLf : Statement .symLf := by
  intro x hs _
  cases x with
  | symbol => rfl
  | _ => simp [Context.selects] at hs

theorem symEnc (h c : Nibble) : Statement (.symEnc h c) := by
  intro x hs hw
  cases x with
  | symbol =>
    have hv : byteClass (joinNibbles h c) = .enc :=
      byteClass_enc_of_valid _ (by simpa [Instr.wellFormed] using hw)
    simp [encode, decode, decodeSymbol, hv]
  | _ => simp [Context.selects] at hs

theorem symEncHigh (p : Byte) : Statement (.symEncHigh p) := by
  intro x hs hw
  cases x <;> simp_all [Context.selects, Instr.wellFormed]

theorem symEncLow (p : Byte) : Statement (.symEncLow p) := by
  intro x hs hw
  cases x <;> simp_all [Context.selects, Instr.wellFormed]

theorem construct (addr : Byte) (settle : Duration) (baud : Int) (completion : Completion) : Statement (.construct addr settle baud completion) := by
  intro x hs hw
  cases x <;> simp_all [Context.selects, Instr.wellFormed, encode, decode, decodeCommand]

theorem tick : Statement .tick := by
  intro x hs hw
  cases x <;> simp_all [Context.selects, Instr.wellFormed, encode, decode, decodeCommand]

theorem enqueue (dest : Byte) (payload : List Byte) (tid : Byte) : Statement (.enqueue dest payload tid) := by
  intro x hs hw
  cases x <;> simp_all [Context.selects, Instr.wellFormed, encode, decode, decodeCommand]

theorem pending : Statement .pending := by
  intro x hs hw
  cases x <;> simp_all [Context.selects, Instr.wellFormed, encode, decode, decodeCommand]

theorem available : Statement .available := by
  intro x hs hw
  cases x <;> simp_all [Context.selects, Instr.wellFormed, encode, decode, decodeCommand]

theorem read : Statement .read := by
  intro x hs hw
  cases x <;> simp_all [Context.selects, Instr.wellFormed, encode, decode, decodeCommand]

theorem getAddr : Statement .getAddr := by
  intro x hs hw
  cases x <;> simp_all [Context.selects, Instr.wellFormed, encode, decode, decodeCommand]

theorem setAddr (a : Byte) : Statement (.setAddr a) := by
  intro x hs hw
  cases x <;> simp_all [Context.selects, Instr.wellFormed, encode, decode, decodeCommand]

theorem isBroadcast (m : Message) : Statement (.isBroadcast m) := by
  intro x hs hw
  cases x <;> simp_all [Context.selects, Instr.wellFormed, encode, decode, decodeCommand]

theorem reply (m : Message) (payload : List Byte) (override : Bool) : Statement (.reply m payload override) := by
  intro x hs hw
  cases x <;> simp_all [Context.selects, Instr.wellFormed, encode, decode, decodeCommand]

theorem unassignedAB (x : BitVec 1) : Statement (.unassignedAB x) := by
  intro y hs _
  cases y with
  | port => revert x; decide
  | _ => simp [Context.selects] at hs

theorem unassignedCF (x : BitVec 2) : Statement (.unassignedCF x) := by
  intro y hs _
  cases y with
  | port => revert x; decide
  | _ => simp [Context.selects] at hs

theorem txGate : Statement .txGate := by
  intro x hs hw
  cases x <;> simp_all [Context.selects, Instr.wellFormed, encode, decode, decodePhase]

theorem txAssert : Statement .txAssert := by
  intro x hs hw
  cases x <;> simp_all [Context.selects, Instr.wellFormed, encode, decode, decodePhase]

theorem txSettle1 : Statement .txSettle1 := by
  intro x hs hw
  cases x <;> simp_all [Context.selects, Instr.wellFormed, encode, decode, decodePhase]

theorem txWrite : Statement .txWrite := by
  intro x hs hw
  cases x <;> simp_all [Context.selects, Instr.wellFormed, encode, decode, decodePhase]

theorem txCompleteExact : Statement .txCompleteExact := by
  intro x hs hw
  cases x <;> simp_all [Context.selects, Instr.wellFormed, encode, decode, decodePhase]

theorem txCompleteFlushEstimate : Statement .txCompleteFlushEstimate := by
  intro x hs hw
  cases x <;> simp_all [Context.selects, Instr.wellFormed, encode, decode, decodePhase]

theorem txCompleteEstimate : Statement .txCompleteEstimate := by
  intro x hs hw
  cases x <;> simp_all [Context.selects, Instr.wellFormed, encode, decode, decodePhase]

theorem txDeassert : Statement .txDeassert := by
  intro x hs _
  cases x with
  | sequencer p mode => cases p <;> simp [Context.selects] at hs; rfl
  | _ => simp [Context.selects] at hs

theorem txSettle2 : Statement .txSettle2 := by
  intro x hs _
  cases x with
  | sequencer p mode => cases p <;> simp [Context.selects] at hs; rfl
  | _ => simp [Context.selects] at hs

theorem txCommit : Statement .txCommit := by
  intro x hs hw
  cases x <;> simp_all [Context.selects, Instr.wellFormed, encode, decode, decodePhase]

theorem txFail : Statement .txFail := by
  intro x hs hw
  cases x <;> simp_all [Context.selects, Instr.wellFormed, encode, decode, decodePhase]

theorem isValidNodeAddress (a : Int) : Statement (.isValidNodeAddress a) := by
  intro x hs hw
  cases x <;> simp_all [Context.selects, Instr.wellFormed]

theorem isValidSlaveAddress (a : Int) : Statement (.isValidSlaveAddress a) := by
  intro x hs hw
  cases x <;> simp_all [Context.selects, Instr.wellFormed]

theorem valid (b : Byte) : Statement (.valid b) := by
  intro x hs hw
  cases x <;> simp_all [Context.selects, Instr.wellFormed]

theorem decPair (b1 b2 : Byte) : Statement (.decPair b1 b2) := by
  intro x hs hw
  cases x <;> simp_all [Context.selects, Instr.wellFormed]

theorem encodeFrame (dst src tid : Byte) (payload : List Byte) : Statement (.encodeFrame dst src tid payload) := by
  intro x hs hw
  cases x <;> simp_all [Context.selects, Instr.wellFormed]

theorem crcInit (b : Byte) : Statement (.crcInit b) := by
  intro x hs hw
  cases x <;> simp_all [Context.selects, Instr.wellFormed]

theorem crcFold (d : Byte) : Statement (.crcFold d) := by
  intro x hs hw
  cases x <;> simp_all [Context.selects, Instr.wellFormed]

theorem crcCheck (b : Byte) : Statement (.crcCheck b) := by
  intro x hs hw
  cases x <;> simp_all [Context.selects, Instr.wellFormed]

end Sys2Proof.Laws.SelectedWordDecodes
end

