-- ==== Sys2Proof/Tests/Slice0.lean ====
section
/-! SUPPORT. Tests/Slice0.lean: the WellFormed smoke tests, decode tests on words written out from the spec's encodings,
one-step tests whose expected results come from the vectors V<n> of `95_test_vectors.md` or are worked out by hand from the
rule named, and the witnesses that meet the hypotheses of the obligations. -/

set_option Elab.async false
set_option maxRecDepth 4000

namespace Sys2Proof.Tests

open Sys2Proof.Machine

/-! ## Helpers -/

/-- The next state of an answer, if it is one. -/
def after (a : Answer) : Option State :=
  match a with
  | .next s => some s
  | .fault _ => none
  | .refused _ => none

/-- Node 5 in IDLE, with the clock at 100 and standing still for the next six primitives. -/
def node5 : State := { State.reset with ownAddr := 5, clock := 100, advances := [0, 0, 0, 0, 0, 0] }

/-- The reception of V52 after its length byte: destination 5, source 0, transaction id 0, length 1. -/
def rec1 : Reception :=
  { start := 100, dst := 5, src := 0, tid := 0, len := 1, crc := 0x04, half := 0, first := true, count := 0,
    payload := [] }

/-- The reception of V52 with its one payload byte taken. -/
def recFull : Reception := { rec1 with crc := 0x45, count := 1, payload := [0x41] }

/-- Node 5 in state `st` with the reception `r`. -/
def inside (st : RxState) (r : Reception) : State := { node5 with rxState := st, rx := some r }

/-- Frame V40. -/
def frameV40 : Frame := [0x0A, 0x0A, 0x0A, 0x01, 0x05, 0x00, 0x00, 0x01, 0x02, 0x4B, 0xE1, 0x03, 0x45, 0x04, 0x0A, 0x0A]

/-- Node 5 in a phase of a send attempt with frame V40 at the head. -/
def sendingIn (p : Phase) : State := { node5 with phase := p, txFifo := [frameV40] }

/-! ## WellFormed: one ill-formed term for each check -/

theorem test_wf_idleOther_nul : (Instr.idleOther 0x00).wellFormed = false := by decide
theorem test_wf_idleOther_soh : (Instr.idleOther 0x01).wellFormed = false := by decide
theorem test_wf_sohDstReject_broadcast : (Instr.sohDstReject 0xFF).wellFormed = false := by decide
theorem test_wf_tidLenOk_zero : (Instr.tidLenOk 0x00).wellFormed = false := by decide
theorem test_wf_lenOther_stx : (Instr.lenOther 0x02).wellFormed = false := by decide
theorem test_wf_stxEncHigh : (Instr.stxEncHigh 0x4 0x4).wellFormed = false := by decide
theorem test_wf_stxEncLow : (Instr.stxEncLow 0x0 0x1).wellFormed = false := by decide
theorem test_wf_stxOther_encoded : (Instr.stxOther 0x4B).wellFormed = false := by decide
theorem test_wf_stxOther_etx : (Instr.stxOther 0x03).wellFormed = false := by decide
theorem test_wf_crcOkOther_eot : (Instr.crcOkOther 0x04).wellFormed = false := by decide
theorem test_wf_symEnc : (Instr.symEnc 0x4 0x1).wellFormed = false := by decide
theorem test_wf_decPair_first : (Instr.decPair 0x41 0xE1).wellFormed = false := by decide
theorem test_wf_decPair_second : (Instr.decPair 0x4B 0x41).wellFormed = false := by decide
theorem test_wf_encodeFrame_empty : (Instr.encodeFrame 5 0 0 []).wellFormed = false := by decide
theorem test_wf_encodeFrame_long : (Instr.encodeFrame 5 0 0 (List.replicate 256 0x41)).wellFormed = false := by decide
theorem test_wf_crcInit_zero : (Instr.crcInit 0x00).wellFormed = false := by decide

/-! ## Decoding: a word for every row that has one -/

/-- The receiver's context at node 5. -/
def at5 (st : RxState) (first : Bool) (crc : Byte) : Context := .wire ⟨st, 5, first, crc⟩

/-- Rule R100, its rows in order, with the control bytes of rule R92 and the encoded bytes of rule R96. -/
theorem test_decode_wire_header :
    decode (at5 .idle true 0) (.byte 0b00000000) = .instr .idleNul ∧
    decode (at5 .idle true 0) (.byte 0b00000001) = .instr .idleSoh ∧
    decode (at5 .idle true 0) (.byte 0b00001010) = .instr (.idleOther 0x0A) ∧
    decode (at5 .sohReceived true 0) (.byte 0b00000101) = .instr (.sohDstAccept 5) ∧
    decode (at5 .sohReceived true 0) (.byte 0b11111111) = .instr (.sohDstAccept 255) ∧
    decode (at5 .sohReceived true 0) (.byte 0b00000001) = .instr (.sohDstReject 1) ∧
    decode (at5 .destAddressReceived true 0) (.byte 0b00000001) = .instr (.destSrc 1) ∧
    decode (at5 .srcAddressReceived true 0) (.byte 0b00101010) = .instr (.srcTid 0x2A) ∧
    decode (at5 .transactionIdReceived true 0) (.byte 0b11111111) = .instr (.tidLenOk 255) ∧
    decode (at5 .transactionIdReceived true 0) (.byte 0b00000000) = .instr .tidLenZero ∧
    decode (at5 .messageLenReceived true 0) (.byte 0b00000010) = .instr .lenStx ∧
    decode (at5 .messageLenReceived true 0) (.byte 0b00000001) = .instr (.lenOther 1) := by decide

theorem test_decode_wire_body :
    decode (at5 .stxReceived true 0) (.byte 0b01001011) = .instr (.stxEncHigh 0b0100 0b1011) ∧
    decode (at5 .stxReceived false 0) (.byte 0b11100001) = .instr (.stxEncLow 0b1110 0b0001) ∧
    decode (at5 .stxReceived false 0) (.byte 0b00000011) = .instr .stxEtx ∧
    decode (at5 .stxReceived true 0) (.byte 0b00000001) = .instr (.stxOther 1) ∧
    decode (at5 .etxReceived true 0x01) (.byte 0b00000001) = .instr (.etxCrcMatch 0x01) ∧
    decode (at5 .etxReceived true 0x45) (.byte 0b01000100) = .instr (.etxCrcMismatch 0x44) ∧
    decode (at5 .crcOk true 0x45) (.byte 0b00000100) = .instr .crcOkEot ∧
    decode (at5 .crcOk true 0x45) (.byte 0b00001010) = .instr (.crcOkOther 0x0A) := by decide

/-- Rules R92 and R96; 0x41 is of class OTHER (rule R99). -/
theorem test_decode_symbol :
    decode .symbol (.byte 0b00000000) = .instr .symNul ∧
    decode .symbol (.byte 0b00000001) = .instr .symSoh ∧
    decode .symbol (.byte 0b00000010) = .instr .symStx ∧
    decode .symbol (.byte 0b00000011) = .instr .symEtx ∧
    decode .symbol (.byte 0b00000100) = .instr .symEot ∧
    decode .symbol (.byte 0b00001010) = .instr .symLf ∧
    decode .symbol (.byte 0b11010010) = .instr (.symEnc 0b1101 0b0010) ∧
    decode .symbol (.byte 0b01000001) = .reject .noSymbol := by decide

/-- The codes of rule R103, operands in their lanes, the defaults of rules R105 and R256. -/
theorem test_decode_port :
    decode .port (.command { code := 0b0000, addr := 254, settle := ⟨1, 2⟩, baud := 9600, completion := .estimate })
      = .instr (.construct 254 ⟨1, 2⟩ 9600 .estimate) ∧
    decode .port (.command { code := 0b0001 }) = .instr .tick ∧
    decode .port (.command { code := 0b0010, addr := 5, payload := [0x41] }) = .instr (.enqueue 5 [0x41] 0) ∧
    decode .port (.command { code := 0b0011 }) = .instr .pending ∧
    decode .port (.command { code := 0b0100 }) = .instr .available ∧
    decode .port (.command { code := 0b0101 }) = .instr .read ∧
    decode .port (.command { code := 0b0110 }) = .instr .getAddr ∧
    decode .port (.command { code := 0b0111, addr := 9 }) = .instr (.setAddr 9) ∧
    decode .port (.command { code := 0b1000, message := ⟨0, 255, 0, 1, [1]⟩ }) = .instr (.isBroadcast ⟨0, 255, 0, 1, [1]⟩) ∧
    decode .port (.command { code := 0b1001, message := ⟨0, 5, 0x2A, 1, [1]⟩, payload := [2] })
      = .instr (.reply ⟨0, 5, 0x2A, 1, [1]⟩ [2] false) := by decide

/-- The unassigned codes of rule R103. -/
theorem test_decode_unassigned :
    decode .port (.command { code := 0b1010 }) = .instr (.unassignedAB 0) ∧
    decode .port (.command { code := 0b1011 }) = .instr (.unassignedAB 1) ∧
    decode .port (.command { code := 0b1100 }) = .instr (.unassignedCF 0) ∧
    decode .port (.command { code := 0b1101 }) = .instr (.unassignedCF 1) ∧
    decode .port (.command { code := 0b1110 }) = .instr (.unassignedCF 2) ∧
    decode .port (.command { code := 0b1111 }) = .instr (.unassignedCF 3) := by decide

/-- Rule R203's phases, and the three completion rows of rules R207 to R209. -/
theorem test_decode_phase :
    decode (.sequencer .idle .exact) .empty = .reject .nothingToDo ∧
    decode (.sequencer .drain .exact) .empty = .instr .txGate ∧
    decode (.sequencer .assertDe .exact) .empty = .instr .txAssert ∧
    decode (.sequencer .settle1 .exact) .empty = .instr .txSettle1 ∧
    decode (.sequencer .write .exact) .empty = .instr .txWrite ∧
    decode (.sequencer .complete .exact) .empty = .instr .txCompleteExact ∧
    decode (.sequencer .complete .flushEstimate) .empty = .instr .txCompleteFlushEstimate ∧
    decode (.sequencer .complete .estimate) .empty = .instr .txCompleteEstimate ∧
    decode (.sequencer (.deassert false) .exact) .empty = .instr .txDeassert ∧
    decode (.sequencer (.settle2 true) .exact) .empty = .instr .txSettle2 ∧
    decode (.sequencer .commit .exact) .empty = .instr .txCommit ∧
    decode (.sequencer .fail .exact) .empty = .instr .txFail ∧
    decode (.sequencer (.timeout .sent) .exact) .empty = .instr .rxTimeout := by decide

/-- A word of the wrong kind is rejected by name. -/
theorem test_decode_wrong_kind :
    decode .port (.byte 0) = .reject .wrongKind ∧ decode .symbol .empty = .reject .wrongKind ∧
    decode (at5 .idle true 0) .empty = .reject .wrongKind ∧
    decode (.sequencer .drain .exact) (.byte 0) = .reject .wrongKind := by decide

/-- The two encoder shapes by V27 and V30. -/
theorem test_encode_shapes :
    encode (.symEncHigh 0x41) = .byte 0x4B ∧ encode (.symEncLow 0x41) = .byte 0xE1 ∧
    encode (.symEncHigh 0x80) = .byte 0x87 ∧ encode (.symEncLow 0x80) = .byte 0xF0 := by decide

/-- The table's numbers as log entry 3 reads them, and the step that runs them right after reset. -/
theorem test_table_words :
    decodeTableWord 8 0x1 = some .tick ∧ decodeTableWord 8 0xC = some (.unassignedCF 0) ∧
    decodeTableWord 8 0x4B = some (.idleOther 0x4B) ∧ decodeTableWord 0 0 = none ∧ decodeTableWord 8 256 = none := by decide

theorem test_table_word_runs :
    (after (step (State.reset.withFetchWord 8 0x6))).map (·.result) = some (.address 0) ∧
    (after (step (State.reset.withFetchWord 8 0x4B))).map (·.rxState) = some .idle := by decide

/-! ## Codec and checksum vectors -/

/-- V1 to V8. -/
theorem test_addresses :
    [0, 1, 5, 254, 255, 256, -1, 128].map isValidNodeAddr = [true, true, true, true, false, false, false, true] ∧
    [0, 1, 5, 254, 255, 256, -1, 128].map isValidSlaveAddr = [false, true, true, true, false, false, false, true] := by
  decide

/-- V20 to V35. -/
theorem test_enc_byte :
    [0x00, 0x01, 0x02, 0x03, 0x04, 0x0A, 0x10, 0x41].map encByte =
      [[0x0F, 0xF0], [0x0F, 0xE1], [0x0F, 0xD2], [0x0F, 0xC3], [0x0F, 0xB4], [0x0F, 0x5A], [0x1E, 0xF0], [0x4B, 0xE1]] ∧
    [0x5A, 0x7F, 0x80, 0xA5, 0xFF, 0x0F, 0xF0, 0xC3].map encByte =
      [[0x5A, 0x5A], [0x78, 0x0F], [0x87, 0xF0], [0xA5, 0xA5], [0xF0, 0x0F], [0x0F, 0x0F], [0xF0, 0xF0], [0xC3, 0xC3]] := by
  decide

/-- V36 to V39e. -/
theorem test_valid : [0x4B, 0x00, 0x01, 0x02, 0x03, 0x04, 0x0A, 0x41, 0xFF].map validByte =
    [true, false, false, false, false, false, false, false, false] := by decide

/-- V39f to V39i. -/
theorem test_dec_pair : decodePair 0x4B 0xE1 = 0x41 ∧ decodePair 0x0F 0xF0 = 0x00 ∧ decodePair 0xF0 0x0F = 0xFF ∧
    decodePair 0x4B 0x4B = 0x4B := by decide

/-- V40, V41, V42. -/
theorem test_frames :
    frameBytes 5 0 0 [0x41] = frameV40 ∧
    frameBytes 0 5 7 [0x4F, 0x4B] =
      [0x0A, 0x0A, 0x0A, 0x01, 0x00, 0x05, 0x07, 0x02, 0x02, 0x4B, 0x0F, 0x4B, 0x4B, 0x03, 0x03, 0x04, 0x0A, 0x0A] ∧
    frameBytes 255 0 0x10 [0x00, 0x01, 0x02, 0x03, 0x04, 0x0A] =
      [0x0A, 0x0A, 0x0A, 0x01, 0xFF, 0x00, 0x10, 0x06, 0x02, 0x0F, 0xF0, 0x0F, 0xE1, 0x0F, 0xD2, 0x0F, 0xC3, 0x0F, 0xB4,
        0x0F, 0x5A, 0x03, 0xF7, 0x04, 0x0A, 0x0A] := by decide

/-- V44, V45, V46. -/
theorem test_frames_crc_values :
    frameBytes 5 255 3 [0x7F, 0x80] =
      [0x0A, 0x0A, 0x0A, 0x01, 0x05, 0xFF, 0x03, 0x02, 0x02, 0x78, 0x0F, 0x87, 0xF0, 0x03, 0x07, 0x04, 0x0A, 0x0A] ∧
    frameBytes 5 0 0 [0x05] =
      [0x0A, 0x0A, 0x0A, 0x01, 0x05, 0x00, 0x00, 0x01, 0x02, 0x0F, 0xA5, 0x03, 0x01, 0x04, 0x0A, 0x0A] ∧
    frameBytes 5 0 0 [0x00] =
      [0x0A, 0x0A, 0x0A, 0x01, 0x05, 0x00, 0x00, 0x01, 0x02, 0x0F, 0xF0, 0x03, 0x04, 0x04, 0x0A, 0x0A] := by decide

/-- V52 to V54, V56 to V58, and the undetected double error V59a. -/
theorem test_checksums :
    checksumInit 0x12 0x34 2 = 0x24 ∧
    checksum 0x05 0x00 1 [0x41] = 0x45 ∧ checksum 0x00 0x05 2 [0x4F, 0x4B] = 0x03 ∧
    checksum 0xFF 0x00 6 [0x00, 0x01, 0x02, 0x03, 0x04, 0x0A] = 0xF7 ∧ checksum 0x05 0x05 1 [0xFF] = 0xFE ∧
    checksum 0x01 0x02 1 [0x03] = 0x01 ∧ checksum 0x12 0x34 2 [0x56, 0x78] = 0x0A ∧
    checksum 0x05 0x00 2 [0x41, 0x42] = 0x04 ∧ checksum 0x05 0x00 2 [0x40, 0x43] = 0x04 := by decide

/-- V95: 16 bytes at 9600 bit/s are 160000/9600 ms; times 1.2 that is 20 ms, times 1.1 it is 18 and a third. -/
theorem test_estimate :
    estimateMs { baud := 9600 } 16 = { num := 160000, den := 9600 } ∧
    (estimateWait (sendingIn .complete)).floorMs = 20 ∧ (flushEstimateWait (sendingIn .complete)).floorMs = 18 := by
  decide

/-- Conflict C3: a query present gives EXACT, with or without a flush. -/
theorem test_completion_choice :
    Completion.ofCapabilities true false = .exact ∧ Completion.ofCapabilities true true = .exact ∧
    Completion.ofCapabilities false true = .flushEstimate ∧ Completion.ofCapabilities false false = .estimate := by decide

/-! ## The receiver's rows, one step each -/

/-- V50: a NUL in IDLE stamps nothing. -/
theorem test_idleNul : (after (exec .idleNul { node5 with lastBusActivity := 40 })).map
    (fun t => (t.rxState, t.lastBusActivity)) = some (.idle, 40) := by decide

/-- Rule R162's example, at clock 100. -/
theorem test_idleSoh : (after (exec .idleSoh node5)).map (fun t => (t.rxState, t.lastBusActivity, t.rx.map (·.start),
    t.rx.map (·.first))) = some (.sohReceived, 100, some 100, some true) := by decide

/-- V51: LF in IDLE is bus activity. -/
theorem test_idleOther : (after (exec (.idleOther 0x0A) node5)).map (fun t => (t.rxState, t.lastBusActivity)) =
    some (.idle, 100) := by decide

/-- Rule R164's example: 255 is kept as received. -/
theorem test_sohDstAccept : (after (exec (.sohDstAccept 0xFF) (inside .sohReceived { rec1 with dst := 0 }))).map
    (fun t => (t.rxState, t.rx.map (·.dst))) = some (.destAddressReceived, some 0xFF) := by decide

/-- V63: a second SOH is a destination byte. -/
theorem test_sohDstReject : (after (exec (.sohDstReject 0x01) (inside .sohReceived rec1))).map
    (fun t => (t.rxState, t.rx, t.out)) =
      some (.idle, none, [.trace (.discard 1 1), .trace (.transition 1 0)]) := by decide

theorem test_destSrc : (after (exec (.destSrc 0xFF) (inside .destAddressReceived rec1))).map
    (fun t => (t.rxState, t.rx)) = some (.srcAddressReceived, some { rec1 with src := 0xFF }) := by decide

theorem test_srcTid : (after (exec (.srcTid 0x2A) (inside .srcAddressReceived rec1))).map
    (fun t => (t.rxState, t.rx)) = some (.transactionIdReceived, some { rec1 with tid := 0x2A }) := by decide

/-- V52 and V54: the accumulator starts at dst ^ src ^ len. -/
theorem test_tidLenOk : (after (exec (.tidLenOk 1) (inside .transactionIdReceived { rec1 with crc := 0, len := 0 }))).map
    (fun t => (t.rxState, t.rx)) = some (.messageLenReceived, some rec1) := by decide

theorem test_tidLenOk_broadcast : (after (exec (.tidLenOk 6) (inside .transactionIdReceived { rec1 with dst := 0xFF }))).map
    (fun t => t.rx.map (·.crc)) = some (some 0xF9) := by decide

/-- V64: cause BAD_LENGTH in state 4, and the byte is bus activity. -/
theorem test_tidLenZero : (after (exec .tidLenZero (inside .transactionIdReceived rec1))).map
    (fun t => (t.rxState, t.lastBusActivity, t.out)) =
      some (.idle, 100, [.trace (.discard 2 4), .trace (.transition 4 0)]) := by decide

theorem test_lenStx : (after (exec .lenStx (inside .messageLenReceived rec1))).map (fun t => (t.rxState, t.rx)) =
    some (.stxReceived, some rec1) := by decide

/-- V65. -/
theorem test_lenOther : (after (exec (.lenOther 0x01) (inside .messageLenReceived rec1))).map
    (fun t => (t.rxState, t.rx, t.out.head?)) = some (.idle, none, some (.trace (.discard 3 5))) := by decide

/-- Rule R170's example. -/
theorem test_stxEncHigh : (after (exec (.stxEncHigh 0x4 0xB) (inside .stxReceived rec1))).map
    (fun t => (t.rxState, t.rx)) = some (.stxReceived, some { rec1 with half := 0x40, first := false }) := by decide

/-- Rule R171's example. -/
theorem test_stxEncLow : (after (exec (.stxEncLow 0xE 0x1) (inside .stxReceived { rec1 with half := 0x40, first := false }))).map
    (fun t => (t.rxState, t.rx)) = some (.stxReceived, some { recFull with half := 0x40 }) := by decide

/-- Rule R172: at a count of 256 and length 255 the byte is folded and neither stored nor counted (V82). -/
theorem test_stxEncLow_saturates :
    (after (exec (.stxEncLow 0xE 0x1)
      (inside .stxReceived { rec1 with len := 0xFF, half := 0x40, first := false, count := 256 }))).map
      (fun t => t.rx.map (fun r => (r.count, r.payload, r.crc))) = some (some (256, [], 0x45)) := by decide

/-- V60, and V69: a pending high nibble is dropped. -/
theorem test_stxEtx : (after (exec .stxEtx (inside .stxReceived { recFull with first := false }))).map (·.rxState) =
    some .etxReceived := by decide

/-- V66: cause LENGTH_MISMATCH in state 6. -/
theorem test_stxEtx_short : (after (exec .stxEtx (inside .stxReceived rec1))).map (fun t => (t.rxState, t.out.head?)) =
    some (.idle, some (.trace (.discard 5 6))) := by decide

/-- V72: an SOH inside the body. -/
theorem test_stxOther : (after (exec (.stxOther 0x01) (inside .stxReceived rec1))).map
    (fun t => (t.rxState, t.rx, t.out.head?)) = some (.idle, none, some (.trace (.discard 4 6))) := by decide

theorem test_etxCrcMatch : (after (exec (.etxCrcMatch 0x45) (inside .etxReceived recFull))).map (·.rxState) =
    some .crcOk := by decide

/-- V70. -/
theorem test_etxCrcMismatch : (after (exec (.etxCrcMismatch 0x44) (inside .etxReceived recFull))).map
    (fun t => (t.rxState, t.out.head?)) = some (.idle, some (.trace (.discard 6 7))) := by decide

/-- V60: what is delivered. -/
theorem test_crcOkEot : (after (exec .crcOkEot (inside .crcOk recFull))).map (fun t => (t.rxState, t.rx, t.rxFifo)) =
    some (.idle, none, [{ src := 0, dst := 5, tid := 0, len := 1, payload := [0x41] }]) := by decide

/-- Rule R62: a finite inbound FIFO that is full. -/
theorem test_crcOkEot_overflow :
    (after (exec .crcOkEot { inside .crcOk recFull with params := { rxqDepth := some 0 } })).map
      (fun t => (t.rxState, t.rxFifo, t.out.head?)) = some (.idle, [], some (.trace (.discard 9 8))) := by decide

/-- V71. -/
theorem test_crcOkOther : (after (exec (.crcOkOther 0x0A) (inside .crcOk recFull))).map
    (fun t => (t.rxState, t.rxFifo, t.out.head?)) = some (.idle, [], some (.trace (.discard 7 8))) := by decide

/-- V86: exactly 500 ms is no timeout. -/
theorem test_rxTimeout_500 : (after (exec .rxTimeout { inside .stxReceived rec1 with clock := 600, phase := .timeout .sent })).map
    (fun t => (t.rxState, t.phase, t.result)) = some (.stxReceived, .idle, .tick .sent) := by decide

/-- V87: 501 ms is, and the activity stamp is untouched. -/
theorem test_rxTimeout_501 : (after (exec .rxTimeout { inside .stxReceived rec1 with clock := 601, phase := .timeout .nothing })).map
    (fun t => (t.rxState, t.rx, t.lastBusActivity, t.out.head?)) =
      some (.idle, none, 0, some (.trace (.discard 8 6))) := by decide

/-! ## Symbol rows -/

/-- The six control bytes in the states that test for them, and in one where they are data or violations. -/
theorem test_symNul : (after (exec .symNul (inside .transactionIdReceived rec1))).map (·.rxState) = some .idle := by decide
theorem test_symSoh : (after (exec .symSoh node5)).map (·.rxState) = some .sohReceived := by decide
theorem test_symStx : (after (exec .symStx (inside .messageLenReceived rec1))).map (·.rxState) = some .stxReceived := by decide
theorem test_symEtx : (after (exec .symEtx (inside .stxReceived recFull))).map (·.rxState) = some .etxReceived := by decide
theorem test_symEot : (after (exec .symEot (inside .crcOk recFull))).map (·.rxFifo.length) = some 1 := by decide
theorem test_symLf : (after (exec .symLf (inside .srcAddressReceived rec1))).map (fun t => t.rx.map (·.tid)) =
    some (some 0x0A) := by decide
theorem test_symEnc : (after (exec (.symEnc 0x4 0xB) (inside .stxReceived rec1))).map (fun t => t.rx.map (·.half)) =
    some (some 0x40) := by decide
theorem test_symEncHigh : (after (exec (.symEncHigh 0x41) node5)).map (·.result) = some (.byte 0x4B) := by decide
theorem test_symEncLow : (after (exec (.symEncLow 0x41) node5)).map (·.result) = some (.byte 0xE1) := by decide

/-! ## Host operations -/

/-- V109. -/
theorem test_construct : (after (exec (.construct 0 ⟨1, 2⟩ 9600 .exact) { State.powerOn with clock := 7, advances := [3] })).map
    (fun t => (t.built, t.ownAddr, t.lastBusActivity, t.params.settle, t.result)) =
      some (true, 0, 10, ⟨1, 2⟩, .status .ok) := by decide

/-- V108: the address is checked first; no engine comes to be. -/
theorem test_construct_bad : (after (exec (.construct 255 ⟨0, 1⟩ 9600 .estimate) State.powerOn)).map
    (fun t => (t.built, t.result)) = some (false, .status .eAddr) := by decide

theorem test_tick : (after (exec .tick node5)).map (·.phase) = some .drain := by decide

/-- V103. -/
theorem test_enqueue : (after (exec (.enqueue 5 [0x41] 0) { node5 with ownAddr := 0 })).map
    (fun t => (t.txFifo, t.result)) = some ([frameV40], .status .ok) := by decide

/-- V100. -/
theorem test_enqueue_empty : (after (exec (.enqueue 5 [] 0) node5)).map (fun t => (t.txFifo, t.result)) =
    some ([], .status .eLen) := by decide

theorem test_pending : (after (exec .pending (sendingIn .idle))).map (·.result) = some (.count 1) := by decide
theorem test_available : (after (exec .available node5)).map (·.result) = some (.count 0) := by decide

/-- Rule R247: the oldest of two. -/
theorem test_read : (after (exec .read { node5 with rxFifo := [⟨0, 5, 1, 1, [0x11]⟩, ⟨7, 5, 2, 1, [0x22]⟩] })).map
    (fun t => (t.rxFifo, t.result)) = some ([⟨7, 5, 2, 1, [0x22]⟩], .message ⟨0, 5, 1, 1, [0x11]⟩) := by decide

/-- V110. -/
theorem test_read_empty : (after (exec .read node5)).map (·.result) = some (.status .eEmpty) := by decide

theorem test_getAddr : (after (exec .getAddr node5)).map (·.result) = some (.address 5) := by decide

/-- V112. -/
theorem test_setAddr : (after (exec (.setAddr 9) (inside .srcAddressReceived rec1))).map
    (fun t => (t.ownAddr, t.rx, t.result)) = some (9, some rec1, .status .ok) := by decide
theorem test_setAddr_bad : (after (exec (.setAddr 255) node5)).map (fun t => (t.ownAddr, t.result)) =
    some (5, .status .eAddr) := by decide

/-- V114. -/
theorem test_isBroadcast : (after (exec (.isBroadcast ⟨0, 255, 0, 1, [1]⟩) node5)).map (·.result) = some (.flag true) ∧
    (after (exec (.isBroadcast ⟨0, 5, 0, 1, [1]⟩) node5)).map (·.result) = some (.flag false) := by decide

/-- V115. -/
theorem test_reply : (after (exec (.reply ⟨0, 5, 0x2A, 2, [0x48, 0x69]⟩ [0x4F, 0x4B] false) node5)).map (·.txFifo) =
    some [[0x0A, 0x0A, 0x0A, 0x01, 0x00, 0x05, 0x2A, 0x02, 0x02, 0x4B, 0x0F, 0x4B, 0x4B, 0x03, 0x03, 0x04, 0x0A, 0x0A]] := by
  decide

/-- V116. -/
theorem test_reply_broadcast : (after (exec (.reply ⟨0, 255, 0, 1, [1]⟩ [0x4F] false) node5)).map
    (fun t => (t.txFifo, t.result)) = some ([], .status .eBroadcastReply) := by decide

/-- V119. -/
theorem test_unassignedAB : (after (exec (.unassignedAB 1) node5)).map (·.result) = some (.status .eBadOp) := by decide
theorem test_unassignedCF : (after (exec (.unassignedCF 3) node5)).map (·.result) = some (.status .eBadOp) := by decide

/-- Rule R320: an operation during a TICK is refused. -/
theorem test_overlap : after (exec (.setAddr 9) { node5 with phase := .write }) = none := by decide

/-! ## The transmit scheduler -/

/-- V91 and V92. -/
theorem test_txGate_closed : (after (exec .txGate { sendingIn .drain with lastBusActivity := 91 })).map (·.phase) =
    some (.timeout .nothing) := by decide
theorem test_txGate_open : (after (exec .txGate { sendingIn .drain with lastBusActivity := 90 })).map (·.phase) =
    some .assertDe := by decide

theorem test_txAssert : (after (exec .txAssert (sendingIn .assertDe))).map (fun t => (t.de, t.out, t.phase)) =
    some (true, [.drive true], .settle1) := by decide

/-- Rules R205 and R293, a settle time of 3/2 ms. -/
theorem test_txSettle1 : (after (exec .txSettle1 { sendingIn .settle1 with params := { settle := ⟨3, 2⟩ } })).map
    (fun t => (t.clock, t.phase)) = some (101, .write) := by decide

/-- V99a. -/
theorem test_txWrite : (after (exec .txWrite { sendingIn .write with writeAnswers := [.ok] })).map
    (fun t => (t.chanTx, t.phase)) = some (frameV40, .complete) := by decide

/-- V99b, and a prefix of four bytes on the wire. -/
theorem test_txWrite_fail : (after (exec .txWrite { sendingIn .write with writeAnswers := [.fail 4] })).map
    (fun t => (t.chanTx, t.phase)) = some ([0x0A, 0x0A, 0x0A, 0x01], .deassert false) := by decide

theorem test_txCompleteExact : (after (exec .txCompleteExact { sendingIn .complete with doneAnswers := [.done] })).map
    (·.phase) = some (.deassert true) := by decide

/-- V99c. -/
theorem test_txCompleteExact_fail : (after (exec .txCompleteExact { sendingIn .complete with doneAnswers := [.fail] })).map
    (·.phase) = some (.deassert false) := by decide

/-- V99e. -/
theorem test_txCompleteFlushEstimate :
    (after (exec .txCompleteFlushEstimate
      { sendingIn .complete with params := { completion := .flushEstimate }, flushAnswers := [.ok] })).map
      (fun t => (t.clock, t.phase)) = some (118, .deassert true) := by decide

/-- V99f: no sleep. -/
theorem test_txCompleteFlushEstimate_fail :
    (after (exec .txCompleteFlushEstimate
      { sendingIn .complete with params := { completion := .flushEstimate }, flushAnswers := [.fail] })).map
      (fun t => (t.clock, t.phase, t.out)) = some (100, .deassert false, [.flush]) := by decide

/-- V99d. -/
theorem test_txCompleteEstimate :
    (after (exec .txCompleteEstimate { sendingIn .complete with params := { completion := .estimate } })).map
      (fun t => (t.clock, t.phase)) = some (120, .deassert true) := by decide

theorem test_txDeassert : (after (exec .txDeassert { sendingIn (.deassert false) with de := true })).map
    (fun t => (t.de, t.phase)) = some (false, .settle2 false) := by decide

theorem test_txSettle2 : (after (exec .txSettle2 (sendingIn (.settle2 false)))).map (fun t => (t.clock, t.phase)) =
    some (101, .fail) := by decide

theorem test_txCommit : (after (exec .txCommit (sendingIn .commit))).map
    (fun t => (t.txFifo, t.lastBusActivity, t.phase)) = some ([], 100, .timeout .sent) := by decide

theorem test_txFail : (after (exec .txFail (sendingIn .fail))).map (fun t => (t.txFifo, t.lastBusActivity, t.phase)) =
    some ([frameV40], 0, .timeout .failed) := by decide

/-! ## Function rows -/

theorem test_isValidNodeAddress : (after (exec (.isValidNodeAddress 255) node5)).map (·.result) = some (.flag false) := by
  decide
theorem test_isValidSlaveAddress : (after (exec (.isValidSlaveAddress 0) node5)).map (·.result) = some (.flag false) := by
  decide
theorem test_valid_row : (after (exec (.valid 0x4B) node5)).map (·.result) = some (.flag true) := by decide
theorem test_decPair : (after (exec (.decPair 0x4B 0xE1) node5)).map (·.result) = some (.byte 0x41) := by decide
theorem test_encodeFrame : (after (exec (.encodeFrame 5 0 0 [0x41]) node5)).map (·.result) = some (.bytes frameV40) := by
  decide
theorem test_crcInit : (after (exec (.crcInit 1) (inside .transactionIdReceived { rec1 with crc := 0 }))).map
    (fun t => (t.rx.map (·.crc), t.result)) = some (some 0x04, .byte 0x04) := by decide
theorem test_crcFold : (after (exec (.crcFold 0x41) (inside .stxReceived rec1))).map (fun t => t.rx.map (·.crc)) =
    some (some 0x45) := by decide
theorem test_crcCheck : (after (exec (.crcCheck 0x45) (inside .etxReceived recFull))).map (·.result) = some (.flag true) ∧
    (after (exec (.crcCheck 0x44) (inside .etxReceived recFull))).map (·.result) = some (.flag false) := by decide

/-- Rule R25: right after SOH the accumulator holds no value, so no comparison with it is answered. -/
theorem test_crcCheck_early : after (exec (.crcCheck 0x45) (inside .sohReceived rec1)) = none := by decide

/-! ## The step -/

/-- Rule R299, and a byte in front of the drain. -/
theorem test_step_passive : after (step node5) = some node5 := by decide
theorem test_step_byte :
    (after (step { node5 with phase := .drain, chanRx := [.byte 0x01, .byte 0x05] })).map
      (fun t => (t.rxState, t.chanRx)) = some (.sohReceived, [.byte 0x05]) := by decide

/-- I8: a failing read is refused by name. -/
theorem test_step_failure : after (step { node5 with phase := .drain, chanRx := [.failure] }) = none := by decide

/-! ## Witnesses: states and operands that meet the hypotheses of the obligations, each clause at a boundary value -/

/-- A FIFO depth clause for a finite FIFO of one element. -/
theorem depth_one {n : Nat} (h : n < 1) : ∀ d, (some 1 : Option Nat) = some d → n < d := by
  intro d hd; cases hd; exact h

theorem witness_SelectedWordDecodesToItsRow :
    (at5 .idle true 0).selects .idleNul = true ∧ Instr.idleNul.wellFormed = true ∧
    (at5 .stxReceived false 0).selects (.stxEncLow 0xF 0x0) = true ∧ (Instr.stxEncLow 0xF 0x0).wellFormed = true ∧
    Context.port.selects (.setAddr 255) = true ∧ (Instr.setAddr 255).wellFormed = true ∧
    (Context.sequencer (.settle2 false) .exact).selects .txSettle2 = true ∧ Instr.txSettle2.wellFormed = true ∧
    Context.symbol.selects (.symEnc 0x0 0xF) = true ∧ (Instr.symEnc 0x0 0xF).wellFormed = true := by decide

theorem witness_DecodedRowIsSelectedAndKeepsItsByte :
    decode (at5 .sohReceived true 0) (.byte 0xFF) = .instr (.sohDstAccept 0xFF) ∧
    decode .symbol (.byte 0xF0) = .instr (.symEnc 0xF 0x0) := by decide

theorem witness_EveryByteHasExactlyOneRow :
    ((inside .etxReceived recFull).rxState ≠ .idle → (inside .etxReceived recFull).rx.isSome = true) ∧
    (node5.rxState ≠ .idle → node5.rx.isSome = true) := by decide

theorem witness_FrameLayout :
    1 ≤ ([0x41] : List Byte).length ∧ ([0x41] : List Byte).length ≤ 255 ∧
    1 ≤ (List.replicate 255 (0 : Byte)).length ∧ (List.replicate 255 (0 : Byte)).length ≤ 255 ∧
    (List.replicate 255 (0 : Byte))[254]? = some 0 ∧ (2 : Nat) < 3 := by simp

theorem witness_ChecksumIgnoresPayloadOrder : ([1, 2, 2] : List Byte).Perm [2, 1, 2] := by decide

theorem witness_ChecksumDetectsOddDifferences :
    ([0x41, 0x42] : List Byte).length = ([0x40, 0x43] : List Byte).length ∧ (7 : Nat) < 8 := by decide

theorem witness_AccumulatorRows :
    (inside .transactionIdReceived rec1).rx = some rec1 ∧
    (inside .transactionIdReceived rec1).rxState = .transactionIdReceived ∧
    (inside .stxReceived rec1).rx = some rec1 ∧ (inside .stxReceived rec1).rxState = .stxReceived ∧
    (inside .etxReceived recFull).rx = some recFull ∧ (inside .etxReceived recFull).rxState = .etxReceived ∧
    (inside .stxReceived rec1).rxState ≠ .transactionIdReceived ∧
    (inside .etxReceived recFull).rxState ≠ .stxReceived ∧ (inside .stxReceived rec1).rxState ≠ .etxReceived := by decide

theorem witness_ConstructBuildsAnEngine :
    node5.phase = .idle ∧ (254 : Byte).toNat ≤ 254 ∧ (0 : Int) < (⟨1, 2⟩ : Duration).num ∧ 0 < (⟨1, 2⟩ : Duration).den ∧
    (Completion.exact ≠ .exact → (0 : Int) < 0) ∧ (Completion.estimate ≠ .exact → (0 : Int) < 1) := by decide

theorem witness_ConstructRejectsBadArguments :
    node5.phase = .idle ∧ 254 < (255 : Byte).toNat ∧
    ((254 : Byte).toNat ≤ 254 ∧ (⟨0, 1⟩ : Duration).num ≤ 0) ∧
    ((0 : Byte).toNat ≤ 254 ∧ (0 : Int) < (⟨1, 1⟩ : Duration).num ∧ 0 < (⟨1, 1⟩ : Duration).den ∧
      Completion.flushEstimate ≠ .exact ∧ (0 : Int) ≤ 0) := by decide

theorem witness_TickBeginsWithTheDrain : node5.phase = .idle ∧ node5.built = true := by decide

theorem witness_EnqueueAppendsTheFrame :
    ∃ s : State, s.phase = .idle ∧ s.built = true ∧ 1 ≤ (List.replicate 255 (0 : Byte)).length ∧
      (List.replicate 255 (0 : Byte)).length ≤ 255 ∧ (∀ d, s.params.txqDepth = some d → s.txFifo.length < d) ∧
      ([] : List Byte).length = 0 ∧ 255 < (List.replicate 256 (0 : Byte)).length :=
  ⟨{ node5 with params := { txqDepth := some 1 } }, rfl, rfl, by simp, by simp, depth_one (by decide), rfl, by simp⟩

theorem witness_EnqueueRejects :
    ∃ s : State, s.phase = .idle ∧ s.built = true ∧ ([] : List Byte).length = 0 ∧
      255 < (List.replicate 256 (0 : Byte)).length ∧ 1 ≤ ([0x41] : List Byte).length ∧ ([0x41] : List Byte).length ≤ 255 ∧
      s.params.txqDepth = some 1 ∧ 1 ≤ s.txFifo.length :=
  ⟨{ sendingIn .idle with params := { txqDepth := some 1 } }, rfl, rfl, rfl, by simp, by decide, by decide, rfl, by decide⟩

theorem witness_PureReadsAnswer : node5.phase = .idle ∧ node5.built = true := by decide

theorem witness_ReadTakesTheOldest :
    node5.phase = .idle ∧ node5.built = true ∧ node5.rxFifo = [] ∧
    ({ node5 with rxFifo := [⟨0, 5, 1, 1, [0x11]⟩] } : State).rxFifo = ⟨0, 5, 1, 1, [0x11]⟩ :: [] := by decide

theorem witness_SetAddrReplacesTheAddress :
    node5.phase = .idle ∧ node5.built = true ∧ (254 : Byte).toNat ≤ 254 ∧ 254 < (255 : Byte).toNat := by decide

theorem witness_ReplyEnqueuesToTheSource :
    node5.phase = .idle ∧ node5.built = true ∧ (⟨0, 255, 0, 1, [1]⟩ : Message).dst = 255#8 ∧
    (⟨0, 254, 0, 1, [1]⟩ : Message).dst ≠ 255#8 ∧ 1 ≤ ([0x41] : List Byte).length ∧ ([0x41] : List Byte).length ≤ 255 ∧
    node5.params.txqDepth = none := by decide

theorem witness_UnassignedCodesAreBadOps :
    node5.phase = .idle ∧ 10 ≤ ({ code := 0xA } : Command).code.toNat ∧ 10 ≤ ({ code := 0xF } : Command).code.toNat := by
  decide

theorem witness_MisplacedHostOperationsHaveNoMeaning :
    (sendingIn .write).phase ≠ .idle ∧ State.powerOn.phase = .idle ∧ State.powerOn.built = false ∧
    1 ≤ ({ code := 1 } : Command).code.toNat ∧ ({ code := 9 } : Command).code.toNat ≤ 9 := by decide

theorem witness_IdleRows :
    node5.rxState = .idle ∧ (0x02#8 : Byte) ≠ 0x00#8 ∧ (0x02#8 : Byte) ≠ 0x01#8 := by decide

theorem witness_DestinationByteRows :
    (inside .sohReceived rec1).rxState = .sohReceived ∧ (inside .sohReceived rec1).rx = some rec1 ∧
    ((5 : Byte) = (inside .sohReceived rec1).ownAddr ∨ (5 : Byte) = 0xFF#8) ∧
    ((0xFF : Byte) = (inside .sohReceived rec1).ownAddr ∨ (0xFF : Byte) = 0xFF#8) ∧
    (0xFE : Byte) ≠ (inside .sohReceived rec1).ownAddr ∧ (0xFE : Byte) ≠ 0xFF#8 := by decide

theorem witness_SourceAndTransactionIdRows :
    (inside .destAddressReceived rec1).rx = some rec1 ∧
    (inside .destAddressReceived rec1).rxState = .destAddressReceived ∧
    (inside .srcAddressReceived rec1).rx = some rec1 ∧ (inside .srcAddressReceived rec1).rxState = .srcAddressReceived := by
  decide

theorem witness_LengthByteRows :
    (inside .transactionIdReceived rec1).rxState = .transactionIdReceived ∧
    (inside .transactionIdReceived rec1).rx = some rec1 ∧ (1 : Byte) ≠ 0#8 ∧ (255 : Byte) ≠ 0#8 := by decide

theorem witness_StartOfBodyRows :
    (inside .messageLenReceived rec1).rxState = .messageLenReceived ∧ (inside .messageLenReceived rec1).rx = some rec1 ∧
    (0x01 : Byte) ≠ 0x02#8 ∧ (0x03 : Byte) ≠ 0x02#8 := by decide

theorem witness_EncodedByteRows :
    (inside .stxReceived rec1).rxState = .stxReceived ∧ (inside .stxReceived rec1).rx = some rec1 ∧ rec1.first = true ∧
    (inside .stxReceived { rec1 with first := false }).rx = some { rec1 with first := false } ∧
    ({ rec1 with first := false } : Reception).first = false := by decide

theorem witness_EndOfBodyRows :
    (inside .stxReceived recFull).rxState = .stxReceived ∧ (inside .stxReceived recFull).rx = some recFull ∧
    recFull.count = recFull.len.toNat ∧ rec1.count ≠ rec1.len.toNat ∧
    ({ recFull with count := 2 } : Reception).count ≠ recFull.len.toNat ∧
    validByte 0x02 = false ∧ (0x02 : Byte) ≠ 0x03#8 := by decide

theorem witness_ChecksumByteRows :
    (inside .etxReceived recFull).rxState = .etxReceived ∧ (inside .etxReceived recFull).rx = some recFull ∧
    (0x45 : Byte) = recFull.crc ∧ (0x44 : Byte) ≠ recFull.crc := by decide

theorem witness_EndOfFrameRows :
    (∃ s : State, s.rxState = .crcOk ∧ s.rx = some recFull ∧ ∀ d, s.params.rxqDepth = some d → s.rxFifo.length < d) ∧
    (∃ s : State, s.rxState = .crcOk ∧ s.rx = some recFull ∧ s.params.rxqDepth = some 0 ∧ 0 ≤ s.rxFifo.length) ∧
    (0x03 : Byte) ≠ 0x04#8 :=
  ⟨⟨{ inside .crcOk recFull with params := { rxqDepth := some 1 } }, rfl, rfl, depth_one (by decide)⟩,
    ⟨{ inside .crcOk recFull with params := { rxqDepth := some 0 } }, rfl, rfl, rfl, by decide⟩, by decide⟩

theorem witness_SymbolRowsAreByteSteps :
    ((inside .stxReceived rec1).rxState ≠ .idle → (inside .stxReceived rec1).rx.isSome = true) ∧
    ((Instr.symNul, (0x00#8 : Byte)) = (.symNul, 0x00#8)) ∧
    ∃ h : Nibble, (Instr.symEnc 0xF 0x0, (0xF0#8 : Byte)) = (.symEnc h (~~~h), h ++ (~~~h)) :=
  ⟨by decide, rfl, 0xF, by decide⟩

theorem witness_PacketTimeoutRow :
    ({ node5 with phase := .timeout .sent } : State).phase = .timeout .sent ∧
    ({ node5 with phase := .timeout .sent } : State).rxState = .idle ∧
    ({ inside .crcOk recFull with phase := .timeout .failed } : State).phase = .timeout .failed ∧
    ({ inside .crcOk recFull with phase := .timeout .failed } : State).rxState ≠ .idle ∧
    ({ inside .crcOk recFull with phase := .timeout .failed } : State).rx = some recFull ∧
    node5.params.packetTimeoutMs < 601 - recFull.start ∧ 600 - recFull.start ≤ node5.params.packetTimeoutMs := by decide

theorem witness_LineIdleGateRow :
    (sendingIn .drain).phase = .drain ∧ (sendingIn .drain).txFifo ≠ [] ∧
    ({ node5 with phase := .drain } : State).txFifo = [] ∧
    (sendingIn .drain).params.lineReadyMs ≤ 110 - 100 ∧ 109 - 100 < (sendingIn .drain).params.lineReadyMs := by decide

theorem witness_DirectionControlRows :
    (sendingIn .assertDe).phase = .assertDe ∧ (sendingIn (.deassert true)).phase = .deassert true ∧
    (sendingIn (.deassert false)).phase = .deassert false := by decide

theorem witness_SettleWaitRows :
    (sendingIn .settle1).phase = .settle1 ∧ (sendingIn (.settle2 true)).phase = .settle2 true ∧
    (sendingIn (.settle2 false)).phase = .settle2 false := by decide

theorem witness_WriteRow :
    (sendingIn .write).phase = .write ∧ (sendingIn .write).txFifo = frameV40 :: [] ∧
    ({ sendingIn .write with writeAnswers := [.ok] } : State).nextWrite = .ok ∧
    ({ sendingIn .write with writeAnswers := [.fail 0] } : State).nextWrite = .fail 0 ∧
    ({ sendingIn .write with writeAnswers := [.fail 16] } : State).nextWrite = .fail 16 := by decide

theorem witness_CompleteExactRow :
    (sendingIn .complete).phase = .complete ∧ (sendingIn .complete).params.completion = .exact := by decide

theorem witness_CompleteByEstimateRows :
    (∃ s : State, s.phase = .complete ∧ s.txFifo = frameV40 :: [] ∧ 0 < s.params.baud ∧
      s.params.completion = .flushEstimate ∧ s.nextFlush = .fail) ∧
    (∃ s : State, s.phase = .complete ∧ s.txFifo = frameV40 :: [] ∧ 0 < s.params.baud ∧
      s.params.completion = .flushEstimate ∧ s.nextFlush = .ok) ∧
    (∃ s : State, s.phase = .complete ∧ s.txFifo = frameV40 :: [] ∧ 0 < s.params.baud ∧
      s.params.completion = .estimate) :=
  ⟨⟨{ sendingIn .complete with params := { completion := .flushEstimate, baud := 1 }, flushAnswers := [.fail] }, by decide⟩,
    ⟨{ sendingIn .complete with params := { completion := .flushEstimate }, flushAnswers := [.ok] }, by decide⟩,
    ⟨{ sendingIn .complete with params := { completion := .estimate } }, by decide⟩⟩

theorem witness_OutcomeRows : (sendingIn .commit).phase = .commit ∧ (sendingIn .fail).phase = .fail := by decide

theorem witness_StepRunsTheDecodedRow :
    (node5.phase = .idle ∧ node5.commands = []) ∧
    (({ node5 with commands := [{ code := 0xF }] } : State).phase = .idle ∧
      ({ node5 with commands := [{ code := 0xF }] } : State).commands = { code := 0xF } :: [] ∧
      decode .port (.command { code := 0xF }) = .instr (.unassignedCF 3)) ∧
    (({ node5 with phase := .drain, chanRx := [.byte 0x01] } : State).phase = .drain ∧
      ({ node5 with phase := .drain, chanRx := [.byte 0x01] } : State).chanRx = .byte 0x01 :: [] ∧
      decode (.wire (wireContext { node5 with phase := .drain, chanRx := [.byte 0x01] })) (.byte 0x01) = .instr .idleSoh) ∧
    (({ node5 with phase := .drain } : State).chanRx = [] ∧
      decode (.sequencer .drain node5.params.completion) .empty = .instr .txGate) ∧
    ({ node5 with phase := .drain, chanRx := [.silence] } : State).chanRx = .silence :: [] ∧
    ({ node5 with phase := .drain, chanRx := [.noByte] } : State).chanRx = .noByte :: [] ∧
    ({ node5 with phase := .drain, chanRx := [.failure] } : State).chanRx = .failure :: [] ∧
    ((sendingIn .complete).phase ≠ .idle ∧ (sendingIn .complete).phase ≠ .drain ∧
      decode (.sequencer .complete .exact) .empty = .instr .txCompleteExact) := by decide

/-- A step that each kind of unit of work takes to a next state, the hypothesis of the obligations about every step. -/
theorem witness_next_states :
    (∃ t, step { node5 with commands := [{ code := 7, addr := 9 }] } = .next t ∧ t.ownAddr ≠ node5.ownAddr) ∧
    (∃ t, step { node5 with phase := .drain, chanRx := [.byte 0x01] } = .next t) ∧
    (∃ t, step (sendingIn .assertDe) = .next t) := ⟨⟨_, rfl, by decide⟩, ⟨_, rfl⟩, ⟨_, rfl⟩⟩

theorem witness_OnlySendAttemptsDriveTheOutput : ∃ s t : State, step s = .next t ∧ t.de ≠ s.de :=
  ⟨sendingIn .assertDe, _, rfl, by decide⟩

theorem witness_OnlyTheHostChangesTheAddress : ∃ s t : State, step s = .next t ∧ t.ownAddr ≠ s.ownAddr :=
  ⟨{ node5 with commands := [{ code := 7, addr := 9 }] }, _, rfl, by decide⟩

theorem witness_OnlyTheHostChangesTheAddress_params : ∃ s t : State, step s = .next t ∧ t.params ≠ s.params :=
  ⟨{ node5 with commands := [{ code := 0, addr := 9, settle := ⟨3, 2⟩ }] }, _, rfl, by decide⟩

theorem witness_ReceiverMovesAlongTheChain : ∃ s t : State, step s = .next t ∧ t.rxState ≠ s.rxState :=
  ⟨{ node5 with phase := .drain, chanRx := [.byte 0x01] }, _, rfl, by decide⟩

theorem witness_SingleSuccessPath : ∃ s t : State, step s = .next t ∧ t.rxFifo ≠ s.rxFifo :=
  ⟨{ inside .crcOk recFull with phase := .drain, chanRx := [.byte 0x04] }, _, rfl, by decide⟩

theorem witness_OutboundFifoIsStrict : ∃ s t : State, step s = .next t ∧ t.txFifo ≠ s.txFifo :=
  ⟨sendingIn .commit, _, rfl, by decide⟩

theorem witness_ActivityStampWriters : ∃ s t : State, step s = .next t ∧ t.lastBusActivity ≠ s.lastBusActivity :=
  ⟨{ node5 with phase := .drain, chanRx := [.byte 0x0A] }, _, rfl, by decide⟩

theorem witness_ClockNeverRunsBackwards : ∃ s t : State, step s = .next t ∧ s.clock ≠ t.clock :=
  ⟨{ sendingIn .settle1 with advances := [1] }, _, rfl, by decide⟩

theorem witness_TraceNeverFeedsBack :
    (inside .crcOk recFull).sameButTrace
      { inside .crcOk recFull with params := { node5.params with trace := .absent }, out := [.flush] } := rfl

/-- Node 5 just after a start marker, with a TICK on the port, a destination byte in the channel, and a completion query
that will fail when asked the second time. -/
def midReception : State :=
  { inside .sohReceived rec1 with
    commands := [{ code := 1 }], chanRx := [.byte 5, .silence, .byte 1], doneAnswers := [.notYet, .fail] }

/-- A state with a reception under way that meets the invariant. -/
theorem midReception_inv : midReception.Inv where
  addr := by decide
  reception := by decide
  contents := by
    intro x hx
    cases hx
    exact ⟨by simp [Reception.consistent, midReception, inside, RxState.number, rec1], by decide⟩
  activity := by decide
  inbound := by intro m hm; cases hm
  outbound := by intro f hf; cases hf
  depths := ⟨(fun _ hd => by cases hd), (fun _ hd => by cases hd)⟩
  settle := by decide
  baud := by decide
  direction := by decide
  frame := by intro h; cases h

theorem witness_EveryStepKeepsTheInvariant : ∃ s t : State, s.Inv ∧ step s = .next t :=
  ⟨midReception, _, midReception_inv, rfl⟩

/-- Two receptions that differ in all six unwritten fields. -/
theorem witness_UnwrittenFieldsNeverMatter :
    ∃ s s' : State, s.Inv ∧ s.sameWritten s' ∧ s ≠ s' :=
  ⟨midReception,
    { midReception with rx := some { rec1 with dst := 7, src := 7, tid := 7, len := 7, crc := 7, half := 7 } },
    midReception_inv, ⟨rfl, by simp [midReception, inside, rec1, Reception.agree, RxState.number]⟩, by decide⟩

theorem witness_EncodedFrameIsReceived :
    ∃ (s : State) (rest : List RxItem), 1 ≤ ([0x41] : List Byte).length ∧ ([0x41] : List Byte).length ≤ 255 ∧
      s.phase = .drain ∧ s.rxState = .idle ∧ ((5 : Byte) = s.ownAddr ∨ (5 : Byte) = 0xFF) ∧
      (∀ d, s.params.rxqDepth = some d → s.rxFifo.length < d) ∧
      s.chanRx = (frameBytes 5 0 0 [0x41]).map .byte ++ rest :=
  ⟨{ node5 with phase := .drain, params := { rxqDepth := some 1 }, chanRx := frameV40.map .byte ++ [.byte 0] }, [.byte 0],
    by decide, by decide, rfl, rfl, by decide, depth_one (by decide), by decide⟩

/-- A drain ended by silence, one ended by a read that answers none, one that empties the list, each with a completion
query that is answered; and an estimate mode, in which none is asked. -/
theorem witness_TickRunsToItsEnd :
    (midReception.Inv ∧ midReception.phase = .idle ∧ midReception.built = true ∧
      midReception.commands = { code := 1 } :: [] ∧
      midReception.chanRx = ([5] : List Byte).map .byte ++ .silence :: [.byte 1] ∧
      midReception.params.completion = .exact ∧
      midReception.doneAnswers = List.replicate 1 .notYet ++ .fail :: [] ∧ DoneAnswer.fail ≠ .notYet) ∧
    (∃ s : State, s.Inv ∧ s.phase = .idle ∧ s.built = true ∧ s.commands = { code := 1 } :: [] ∧
      s.chanRx = ([5] : List Byte).map .byte ++ .noByte :: [.byte 1] ∧
      s.doneAnswers = List.replicate 0 .notYet ++ .done :: []) ∧
    (∃ s : State, s.Inv ∧ s.phase = .idle ∧ s.built = true ∧ s.commands = { code := 1 } :: [] ∧
      s.chanRx = ([] : List Byte).map .byte ∧ s.params.completion = .estimate) :=
  ⟨⟨midReception_inv, rfl, rfl, rfl, rfl, rfl, rfl, by decide⟩,
    ⟨{ midReception with chanRx := [.byte 5, .noByte, .byte 1], doneAnswers := [.done] },
      { midReception_inv with }, rfl, rfl, rfl, rfl, rfl⟩,
    ⟨{ midReception with chanRx := [], params := { completion := .estimate } },
      { midReception_inv with settle := by decide, baud := by decide }, rfl, rfl, rfl, rfl, rfl⟩⟩

theorem witness_UnansweredCompletionHangsTheTick :
    ∃ (s : State) (more : List DoneAnswer), s.phase = .complete ∧ s.params.completion = .exact ∧ s.de = true ∧
      s.doneAnswers = List.replicate 2 .notYet ++ more :=
  ⟨{ sendingIn .complete with de := true, doneAnswers := [.notYet, .notYet] }, [], rfl, rfl, rfl, rfl⟩

theorem witness_IdleFillIsInert :
    ∃ (s : State) (rest : List RxItem), s.phase = .drain ∧ s.rxState = .idle ∧
      s.chanRx = List.replicate 3 (.byte 0x00#8) ++ rest :=
  ⟨{ node5 with phase := .drain, chanRx := [.byte 0, .byte 0, .byte 0, .byte 1] }, [.byte 1], rfl, rfl, rfl⟩

theorem witness_SuccessfulAttemptTrace :
    (∃ s : State, s.phase = .assertDe ∧ s.txFifo = frameV40 :: [] ∧ s.writeAnswers = .ok :: [] ∧
      s.params.completion = .exact ∧ s.doneAnswers = List.replicate 2 .notYet ++ .done :: []) ∧
    (∃ s : State, s.phase = .assertDe ∧ s.txFifo = frameV40 :: [] ∧ s.writeAnswers = .ok :: [] ∧
      s.params.completion = .flushEstimate ∧ 0 < s.params.baud ∧ s.flushAnswers = .ok :: []) ∧
    (∃ s : State, s.phase = .assertDe ∧ s.txFifo = frameV40 :: [] ∧ s.writeAnswers = .ok :: [] ∧
      s.params.completion = .estimate ∧ 0 < s.params.baud) :=
  ⟨⟨{ sendingIn .assertDe with writeAnswers := [.ok], doneAnswers := [.notYet, .notYet, .done] }, rfl, rfl, rfl, rfl, rfl⟩,
    ⟨{ sendingIn .assertDe with
        params := { completion := .flushEstimate, baud := 1 }
        writeAnswers := [.ok]
        flushAnswers := [.ok] }, by decide⟩,
    ⟨{ sendingIn .assertDe with params := { completion := .estimate, baud := 1 }, writeAnswers := [.ok] }, by decide⟩⟩

theorem witness_FailedAttemptTrace :
    (∃ s : State, s.phase = .assertDe ∧ s.txFifo = frameV40 :: [] ∧ s.writeAnswers = .fail 16 :: []) ∧
    (∃ s : State, s.phase = .assertDe ∧ s.txFifo = frameV40 :: [] ∧ s.writeAnswers = .ok :: [] ∧
      s.params.completion = .exact ∧ s.doneAnswers = List.replicate 0 .notYet ++ .fail :: []) ∧
    (∃ s : State, s.phase = .assertDe ∧ s.txFifo = frameV40 :: [] ∧ s.writeAnswers = .ok :: [] ∧
      s.params.completion = .flushEstimate ∧ s.flushAnswers = .fail :: []) :=
  ⟨⟨{ sendingIn .assertDe with writeAnswers := [.fail 16] }, rfl, rfl, rfl⟩,
    ⟨{ sendingIn .assertDe with writeAnswers := [.ok], doneAnswers := [.fail] }, rfl, rfl, rfl, rfl, rfl⟩,
    ⟨{ sendingIn .assertDe with
        params := { completion := .flushEstimate }
        writeAnswers := [.ok]
        flushAnswers := [.fail] }, by decide⟩⟩

end Sys2Proof.Tests
end

section
/-! PROOFS. The statements of 00_scope.md: where host operations have no meaning, symbol rows as byte steps, and which row
a step runs. The lemmas on the two operation guards, on the receiver's dispatch and on the remaining two kinds of step come
first. -/

namespace Sys2Proof.Machine

/-! ## The guards of the host operations -/

theorem hostOp_busy {s : State} (body : Answer) (h : s.phase ≠ .idle) :
    hostOp s body = .refused .overlappingOperations := by simp [hostOp, h]

theorem hostOp_noEngine {s : State} (body : Answer) (h : s.phase = .idle) (hb : s.built = false) :
    hostOp s body = .refused .noEngine := by simp [hostOp, h, hb]

theorem portOp_busy {s : State} (body : Answer) (h : s.phase ≠ .idle) :
    portOp s body = .refused .overlappingOperations := by simp [portOp, h]

/-- Every command runs behind one of the two guards, and only CONSTRUCT and the unassigned codes behind the weaker one,
which asks for no engine. -/
theorem exec_decodeCommand_guarded (c : Command) (s : State) :
    (∃ body, exec (decodeCommand c) s = hostOp s body) ∨
    ((c.code.toNat = 0 ∨ 10 ≤ c.code.toNat) ∧ ∃ body, exec (decodeCommand c) s = portOp s body) := by
  unfold decodeCommand
  split
  case h_1 => exact .inr ⟨by omega, _, rfl⟩
  case h_2 | h_3 | h_4 | h_5 | h_6 | h_7 | h_8 | h_9 | h_10 => exact .inl ⟨_, rfl⟩
  case h_11 | h_12 | h_13 | h_14 | h_15 => exact .inr ⟨by omega, _, rfl⟩
  case h_16 => exact .inr ⟨by grind, _, rfl⟩

/-- Settles O23: during a TICK both guards refuse; without an engine the stronger one does, and codes 1 to 9 stand behind
it. -/
theorem misplacedHostOperationsHaveNoMeaning : Obligations.MisplacedHostOperationsHaveNoMeaning := by
  intro s c
  rcases exec_decodeCommand_guarded c s with ⟨body, hrun⟩ | ⟨hcode, body, hrun⟩ <;> rw [hrun]
  · exact ⟨hostOp_busy body, fun hidle hbuilt _ _ => hostOp_noEngine body hidle hbuilt⟩
  · exact ⟨portOp_busy body, fun _ _ h1 h9 => by omega⟩

/-! ## The byte step -/

@[simp] theorem wireContext_rxState (s : State) : (wireContext s).rxState = s.rxState := by
  unfold wireContext; split <;> rfl

@[simp] theorem wireContext_ownAddr (s : State) : (wireContext s).ownAddr = s.ownAddr := by
  unfold wireContext; split <;> rfl

theorem wireContext_first {s : State} {r : Reception} (h : s.rx = some r) : (wireContext s).first = r.first := by
  simp [wireContext, h]

theorem wireContext_crc {s : State} {r : Reception} (h : s.rx = some r) : (wireContext s).crc = r.crc := by
  simp [wireContext, h]

theorem destinationAccepted_iff (s : State) (b : Byte) :
    destinationAccepted s b = true ↔ b = s.ownAddr ∨ b = BROADCAST := by simp [destinationAccepted]

/-- The receiver's dispatch and the decoder choose the same row in every state. -/
theorem rxByte_eq_exec_decodeWire (s : State) (b : Byte) : rxByte b s = exec (decodeWire (wireContext s) b) s := by
  unfold rxByte decodeWire
  rw [wireContext_rxState]
  cases s.rxState with
  | destAddressReceived | srcAddressReceived => rfl
  | sohReceived =>
    simp only [destinationAccepted_iff, wireContext_ownAddr]
    split <;> rfl
  | transactionIdReceived | messageLenReceived | etxReceived | crcOk =>
    dsimp only
    split <;> rfl
  | idle =>
    dsimp only
    split
    · rfl
    · split <;> rfl
  | stxReceived =>
    dsimp only
    split <;> split <;> rfl

theorem atIdle_here {s : State} {c : Bool} {body : Answer} (h : s.rxState = .idle) (hc : c = true) :
    atIdle s c body = body := by simp [atIdle, h, hc]

/-- ETX either closes the body or discards the reception. -/
theorem execStxEtx_completes {s : State} {r : Reception} (h : s.rxState = .stxReceived) (hr : s.rx = some r) :
    ∃ t, execStxEtx s = .next t := by
  rw [execStxEtx, atRow_here h hr rfl]
  split <;> exact ⟨_, rfl⟩

/-- A byte never gets stuck: where a reception is present outside IDLE, the row that takes it answers a next state. -/
theorem rxByte_completes {s : State} (hrx : s.rxState ≠ .idle → s.rx.isSome = true) (b : Byte) :
    ∃ t, rxByte b s = .next t := by
  by_cases hidle : s.rxState = .idle
  · simp only [rxByte, hidle]
    split
    · exact ⟨_, atIdle_here hidle rfl⟩
    · split <;> exact ⟨_, atIdle_here hidle (by simp [*])⟩
  obtain ⟨r, hr⟩ := Option.isSome_iff_exists.mp (hrx hidle)
  unfold rxByte
  cases h : s.rxState with
  | idle => exact absurd h hidle
  | destAddressReceived | srcAddressReceived => exact ⟨_, atRow_here h hr rfl⟩
  | sohReceived | transactionIdReceived | messageLenReceived | crcOk =>
    dsimp only
    split <;> exact ⟨_, atRow_here h hr (by simp [*])⟩
  | etxReceived =>
    simp only [wireContext_crc hr]
    split <;> exact ⟨_, atRow_here h hr (by simp [checksumMatches, *])⟩
  | stxReceived =>
    simp only [wireContext_first hr]
    split
    case isTrue hvalid =>
      rw [validByte_eq] at hvalid
      split <;> exact ⟨_, atRow_here h hr (by simp_all)⟩
    case isFalse =>
      split
      · exact execStxEtx_completes h hr
      · exact ⟨_, atRow_here h hr (by simp [*])⟩

/-- Settles O33: such a row is the byte step of its byte, which runs the decoded row (`rxByte_eq_exec_decodeWire`) and
completes (`rxByte_completes`); what it leaves alone is `wire_effect`'s frame. -/
theorem symbolRowsAreByteSteps : Obligations.SymbolRowsAreByteSteps := by
  intro s hrx i b hsymbol
  have hbyte : exec i s = rxByte b s := by
    rcases hsymbol with h | h | h | h | h | h | ⟨n, h⟩ <;> cases h <;> rfl
  have hrow := rxByte_eq_exec_decodeWire s b
  obtain ⟨t, ht⟩ := rxByte_completes hrx b
  obtain ⟨hframe, -⟩ := wire_effect (hrow.symm.trans ht)
  exact ⟨hbyte.trans hrow, t, hbyte.trans ht, (congrArg State.txFifo hframe :), (congrArg State.de hframe :),
    (congrArg State.ownAddr hframe :)⟩

/-! ## Which row a step runs -/

/-- Between host operations, with no command, the machine holds its state. -/
theorem step_passive {s : State} (h1 : s.phase = .idle) (h2 : s.commands = []) : step s = .next s := by
  have hf : fetch s = fetchCommand s := by simp [fetch, h1]
  simp [step, hf, fetchCommand, h2]

/-- A failing receive side has no outcome in the drain. -/
theorem step_failure {s : State} {rest : List RxItem} (h1 : s.phase = .drain) (h2 : s.chanRx = .failure :: rest) :
    step s = .refused .receiveFailure := by
  simp [step, fetch, h1, fetchWire, chanAvail, h2]

/-- Settles O42: one clause per kind of unit of work, each by the step lemma of that kind. -/
theorem stepRunsTheDecodedRow : Obligations.StepRunsTheDecodedRow := by
  intro s
  refine ⟨step_passive, ?command, ?byte, ?drained, ?mark, fun _ => step_failure, fun _ => step_phase⟩
  case command =>
    rintro c rest _ hp hc ⟨⟩
    exact step_command hp hc
  case byte =>
    rintro b rest _ hp hb ⟨⟩
    exact step_byte hp hb
  case drained =>
    rintro _ hp hempty ⟨⟩
    exact step_gate hp (.inl ⟨hempty, rfl⟩)
  case mark =>
    rintro rest _ hp hmark ⟨⟩
    exact step_gate hp (.inr hmark.symm)

end Sys2Proof.Machine
end

section
/-! PROOFS. The statements of 10_state.md: reset, and which units of work write the output, the address, the parameters, the
receiver's state and the activity stamp. -/

namespace Sys2Proof.Machine

/-- Settles O43: what CONSTRUCT and the document's constants give, read off the reset state. -/
theorem resetIsAFreshEngine : Obligations.ResetIsAFreshEngine :=
  ⟨rfl, rfl, by decide, rfl, rfl, rfl, rfl, rfl, rfl, rfl, by decide, rfl, rfl, rfl, rfl, rfl, rfl, rfl⟩

/-- Settles O44: nothing is received, queued or driven, and the default address, settle time and bit rate pass CONSTRUCT's
checks. -/
theorem invariantHoldsAtReset : Obligations.InvariantHoldsAtReset where
  addr := by decide
  reception := by simp [State.reset]
  contents := by simp [State.reset]
  activity := le_rfl
  inbound := by simp [State.reset]
  outbound := by simp [State.reset]
  depths := ⟨fun _ _ => Nat.zero_le _, fun _ _ => Nat.zero_le _⟩
  settle := by decide
  baud := rfl
  direction := rfl
  frame := by simp [State.reset, Phase.sending]

/-- Beside CONSTRUCT, a host operation writes neither the output, the parameters, the receiver's state nor the stamp, and
only SET_ADDR writes the address. -/
theorem host_writes {s t : State} {c : Command} (he : exec (decodeCommand c) s = .next t) :
    (c.code = 0#4 ∧ t.de = false ∧ t.ownAddr = c.addr ∧ c.addr.toNat ≤ 254 ∧ t.rxState = .idle ∧
      t.lastBusActivity = t.clock ∧
      t.params = { s.params with addr := c.addr, settle := c.settle, baud := c.baud, completion := c.completion }) ∨
    (t.de = s.de ∧ t.params = s.params ∧ t.rxState = s.rxState ∧ t.lastBusActivity = s.lastBusActivity ∧
      (t.ownAddr = s.ownAddr ∨ c.code = 7#4 ∧ t.ownAddr = c.addr ∧ c.addr.toNat ≤ 254)) := by
  rcases host_effect he with
    ⟨hcode, ht | ⟨hparams, haddr, hvalid, hrx, -, -, hde, hstamp, -⟩⟩ | ht | ⟨hcode, ht, hvalid⟩ | ⟨-, m, -, ht⟩ |
    ⟨-, -, ⟨-, ht⟩ | ⟨-, -, ht⟩⟩
  case inl.inr => exact .inl ⟨hcode, hde, haddr, hvalid, hrx, hstamp, hparams⟩
  case inr.inr.inl => rw [ht]; exact .inr ⟨rfl, rfl, rfl, rfl, .inr ⟨hcode, rfl, hvalid⟩⟩
  all_goals rw [ht]; exact .inr ⟨rfl, rfl, rfl, rfl, .inl rfl⟩

/-- A received byte writes neither the output, the address nor the parameters. -/
theorem wire_keeps {s t : State} {b : Byte} (he : exec (decodeWire (wireContext s) b) s = .next t) :
    t.de = s.de ∧ t.ownAddr = s.ownAddr ∧ t.params = s.params := by
  rw [(wire_effect he).1]
  exact ⟨rfl, rfl, rfl⟩

/-- Settles O46: of the four kinds of step, only CONSTRUCT and the two phase rows write the output. -/
theorem onlySendAttemptsDriveTheOutput : Obligations.OnlySendAttemptsDriveTheOutput := by
  intro s t h
  rcases step_next_cases h with ⟨-, -, rfl⟩ | ⟨c, rest, hp, hc, he⟩ | ⟨b, rest, -, -, he⟩ | ⟨i, rest, -, hi, -, he⟩
  · exact .inl rfl
  · rcases host_writes he with ⟨hcode, hde, -⟩ | ⟨hde, -⟩
    · exact .inr (.inr (.inr ⟨c, rest, hp, hc, hcode, hde⟩))
    · exact .inl hde
  · exact .inl (wire_keeps (s := { s with chanRx := rest }) he).1
  · obtain ⟨-, -, -, -, -, -, hde, -⟩ := phase_effect hi he
    exact hde.imp_right (Or.imp_right .inl)

/-- Settles O47: only a host operation can, and of these CONSTRUCT and SET_ADDR behind their address check. -/
theorem onlyTheHostChangesTheAddress : Obligations.OnlyTheHostChangesTheAddress := by
  intro s t h
  rcases step_next_cases h with ⟨-, -, rfl⟩ | ⟨c, rest, hp, hc, he⟩ | ⟨b, rest, -, -, he⟩ | ⟨i, rest, -, hi, -, he⟩
  · exact ⟨fun hne => absurd rfl hne, fun hne => absurd rfl hne⟩
  · rcases host_writes he with ⟨hcode, -, haddr, hvalid, -, -, hparams⟩ | ⟨-, hparams, -, -, haddr⟩
    · exact ⟨fun _ => ⟨c, rest, hp, hc, .inl hcode, haddr, haddr ▸ hvalid⟩, fun _ => ⟨c, rest, hp, hc, hcode, hparams⟩⟩
    · refine ⟨fun hne => ?_, fun hne => absurd hparams hne⟩
      obtain ⟨hcode, haddr, hvalid⟩ := haddr.resolve_left hne
      exact ⟨c, rest, hp, hc, .inr hcode, haddr, haddr ▸ hvalid⟩
  · obtain ⟨-, haddr, hparams⟩ := wire_keeps (s := { s with chanRx := rest }) he
    exact ⟨fun hne => absurd haddr hne, fun hne => absurd hparams hne⟩
  · obtain ⟨haddr, -, -, -, hparams, -⟩ := phase_effect hi he
    exact ⟨fun hne => absurd haddr hne, fun hne => absurd hparams hne⟩

/-- Settles O48: only a received byte advances the receiver, by one state. -/
theorem receiverMovesAlongTheChain : Obligations.ReceiverMovesAlongTheChain := by
  intro s t h
  rcases step_next_cases h with ⟨-, -, rfl⟩ | ⟨c, rest, -, -, he⟩ | ⟨b, rest, hp, hb, he⟩ | ⟨i, rest, -, hi, -, he⟩
  · exact .inl rfl
  · rcases host_writes he with ⟨-, -, -, -, hrx, -⟩ | ⟨-, -, hrx, -⟩
    · exact .inr (.inl hrx)
    · exact .inl hrx
  · obtain ⟨-, hrx, -⟩ := wire_effect (s := { s with chanRx := rest }) he
    exact hrx.imp_right (Or.imp_right fun hnext => ⟨hnext, hp, b, rest, hb⟩)
  · obtain ⟨-, -, -, -, -, -, -, hrx, -⟩ := phase_effect hi he
    exact hrx.imp_right .inl

/-- Settles O51: each kind of step either leaves the stamp or writes the clock's reading, in the three named cases. -/
theorem activityStampWriters : Obligations.ActivityStampWriters := by
  intro s t h
  rcases step_next_cases h with ⟨-, -, rfl⟩ | ⟨c, rest, hp, hc, he⟩ | ⟨b, rest, hp, hb, he⟩ | ⟨i, rest, -, hi, -, he⟩
  · exact .inl rfl
  · rcases host_writes he with ⟨hcode, -, -, -, -, hstamp, -⟩ | ⟨-, -, -, hstamp, -⟩
    · exact .inr ⟨hstamp, .inr (.inr ⟨c, rest, hp, hc, hcode⟩)⟩
    · exact .inl hstamp
  · obtain ⟨-, -, -, hstamp, -⟩ := wire_effect (s := { s with chanRx := rest }) he
    exact hstamp.imp_right fun ⟨hclock, hnul⟩ => ⟨hclock, .inl ⟨b, rest, hp, hb, hnul⟩⟩
  · obtain ⟨-, -, -, -, -, -, -, -, -, hstamp⟩ := phase_effect hi he
    exact hstamp.imp_right fun ⟨hclock, hcommit⟩ => ⟨hclock, .inr (.inl hcommit)⟩

end Sys2Proof.Machine
end

section
/-! PROOFS. The statements of 10_state.md: the invariant. The contents of a reception along the chain of receiver states come
first, then one rule per state operation, then one lemma per row. -/

namespace Sys2Proof

/-! ## What a reception holds, state by state (rule R28) -/

namespace Reception

variable {r : Reception} {st : RxState}

theorem consistent_header_iff (h : st.number ≤ 4) :
    r.consistent st ↔ r.first = true ∧ r.count = 0 ∧ r.payload = [] := by
  cases st <;> simp_all [consistent, RxState.number]

/-- A header byte leaves the flag, the count and the payload as the start marker set them. -/
theorem consistent.header {r' : Reception} {st' : RxState} (h : r.consistent st) (hst : st.number ≤ 4)
    (hst' : st'.number ≤ 4) (hfirst : r'.first = r.first) (hcount : r'.count = r.count)
    (hpayload : r'.payload = r.payload) : r'.consistent st' := by
  rw [consistent_header_iff hst', hfirst, hcount, hpayload]
  exact (consistent_header_iff hst).mp h

theorem consistent_messageLen_iff :
    r.consistent .messageLenReceived ↔ r.len ≠ 0#8 ∧ r.first = true ∧ r.count = 0 ∧ r.payload = [] ∧
      r.crc = checksumInit r.dst r.src r.len := by
  simp [consistent, RxState.number]

theorem consistent_stx_iff :
    r.consistent .stxReceived ↔ r.len ≠ 0#8 ∧ r.count ≤ 256 ∧ r.payload.length = min r.count r.len.toNat ∧
      (r.count ≤ r.len.toNat → r.crc = checksum r.dst r.src r.len r.payload) ∧
      (r.first = false → r.half &&& 0x0F#8 = 0#8) := by
  simp [consistent, RxState.number]

theorem consistent_trailer_iff (h : 7 ≤ st.number) :
    r.consistent st ↔ r.len ≠ 0#8 ∧ r.count = r.len.toNat ∧ r.payload.length = r.len.toNat ∧
      r.crc = checksum r.dst r.src r.len r.payload := by
  cases st <;> simp_all [consistent, RxState.number]

/-- Rule R167: the length byte starts the checksum. -/
theorem consistent.withLen (h : r.consistent .transactionIdReceived) {len : Byte} (hlen : len ≠ 0#8) :
    ({ r with len := len, crc := checksumInit r.dst r.src len } : Reception).consistent .messageLenReceived := by
  obtain ⟨hfirst, hcount, hpayload⟩ := (consistent_header_iff (by decide)).mp h
  exact consistent_messageLen_iff.mpr ⟨hlen, hfirst, hcount, hpayload, rfl⟩

/-- Rule R169: the body starts empty. -/
theorem consistent.stx (h : r.consistent .messageLenReceived) : r.consistent .stxReceived := by
  obtain ⟨hlen, hfirst, hcount, hpayload, hcrc⟩ := consistent_messageLen_iff.mp h
  exact consistent_stx_iff.mpr
    ⟨hlen, by simp [hcount], by simp [hcount, hpayload], by simp [hpayload, hcrc], by simp [hfirst]⟩

theorem consistent.takeHigh (h : r.consistent .stxReceived) (b : Byte) :
    (Machine.takeHigh r b).consistent .stxReceived := by
  obtain ⟨hlen, hcount, hlength, hcrc, -⟩ := consistent_stx_iff.mp h
  have hhalf : b &&& 0xF0#8 &&& 0x0F#8 = 0#8 := by rw [BitVec.and_assoc]; simp
  exact consistent_stx_iff.mpr ⟨hlen, hcount, hlength, hcrc, fun _ => hhalf⟩

/-- Rules R171, R172: below the declared length the byte is stored and folded in; from there on the payload is full. -/
theorem consistent.takeLow (h : r.consistent .stxReceived) (b : Byte) :
    (Machine.takeLow r b).consistent .stxReceived := by
  obtain ⟨hlen, hcount, hlength, hcrc, -⟩ := consistent_stx_iff.mp h
  have hlt := r.len.isLt
  refine consistent_stx_iff.mpr ⟨hlen, by simp [Machine.takeLow], ?_, ?_, by simp [Machine.takeLow]⟩
  · by_cases hc : r.count < r.len.toNat <;> simp [Machine.takeLow, hc] <;> omega
  · intro hle
    have hc : r.count < r.len.toNat := by simp only [Machine.takeLow] at hle; omega
    simp [Machine.takeLow, hc, checksum_append, hcrc hc.le]

/-- Rule R173: an ETX at the declared length closes the body. -/
theorem consistent.etx (h : r.consistent .stxReceived) (hm : Machine.lengthMatches r = true) :
    r.consistent .etxReceived := by
  obtain ⟨hlen, -, hlength, hcrc, -⟩ := consistent_stx_iff.mp h
  have hcount : r.count = r.len.toNat := by simpa [Machine.lengthMatches] using hm
  exact (consistent_trailer_iff (by decide)).mpr ⟨hlen, hcount, by simpa [hcount] using hlength, hcrc hcount.le⟩

theorem consistent.crcOk (h : r.consistent .etxReceived) : r.consistent .crcOk :=
  (consistent_trailer_iff (by decide)).mpr ((consistent_trailer_iff (by decide)).mp h)

/-- Rule R178: what is delivered is a well-formed message (rule R32). -/
theorem consistent.messageOf (h : r.consistent .crcOk) : (Machine.messageOf r).consistent := by
  obtain ⟨hlen, -, hlength, -⟩ := (consistent_trailer_iff (by decide)).mp h
  have hpos : r.len.toNat ≠ 0 := fun h0 => hlen (BitVec.eq_of_toNat_eq h0)
  have hlt := r.len.isLt
  refine ⟨hlength.symm, ?_, ?_⟩ <;> simp only [Machine.messageOf] <;> omega

end Reception

end Sys2Proof

namespace Sys2Proof.Machine

/-! ## One rule per state operation -/

theorem setRx_self {s : State} {r : Reception} (hr : s.rx = some r) : setRx r s = s := by
  cases s; simp_all [setRx]

theorem withinDepth_push {depth : Option Nat} {n : Nat} (h : fifoFull depth n = false) : withinDepth depth (n + 1) := by
  rintro d rfl
  simpa [fifoFull] using h

theorem withinDepth_mono {depth : Option Nat} {n m : Nat} (h : withinDepth depth n) (hm : m ≤ n) : withinDepth depth m :=
  fun d hd => hm.trans (h d hd)

namespace State.Inv

variable {s : State}

/-! The invariant does not speak of the ports, the scripts and the answers. -/

theorem passTime (h : s.Inv) (n : Nat) : (passTime n s).Inv :=
  { h with
    contents := fun r hr => ⟨(h.contents r hr).1, (h.contents r hr).2.trans (passTime_clock_le n s)⟩
    activity := h.activity.trans (passTime_clock_le n s) }

theorem readClock (h : s.Inv) : (readClock s).Inv := h.passTime 0

theorem wait (h : s.Inv) (d : Duration) : (wait d s).Inv := { h.passTime d.floorMs with }

theorem stamp (h : s.Inv) : (stamp s).Inv := { h.readClock with activity := le_rfl }

theorem chanWrite (h : s.Inv) (f : Frame) : (chanWrite f s).Inv := State.Inv.passTime (by exact { h with }) 0

theorem chanDone (h : s.Inv) : (chanDone s).Inv := State.Inv.passTime (by exact { h with }) 0

theorem chanFlush (h : s.Inv) : (chanFlush s).Inv := State.Inv.passTime (by exact { h with }) 0

theorem emit (h : s.Inv) (l : List Output) : (emit l s).Inv := { h with }

theorem respond (h : s.Inv) (r : Result) : (respond r s).Inv := { h with }

/-! The receiver. -/

theorem discard (h : s.Inv) (c : DiscardCause) : (discard c s).Inv :=
  { h with
    reception := by simp
    contents := by simp }

/-- A row that writes the reception and moves on: what is written must fit the new state. -/
theorem receiving (h : s.Inv) {st : RxState} {r : Reception} (hst : st ≠ .idle) (hr : r.consistent st)
    (hstart : r.start ≤ s.clock) : (goto st (setRx r s)).Inv :=
  { h with
    reception := by simpa using hst
    contents := by rintro _ ⟨⟩; exact ⟨hr, hstart⟩ }

/-- Rule R162: a reception starts with nothing in it. -/
theorem startReception (h : s.Inv) : (Machine.goto .sohReceived (createReception s)).Inv :=
  { h.receiving (st := .sohReceived) (r := newReception s.clock s.freeIndex) (by decide)
      ((Reception.consistent_header_iff (by decide)).mpr ⟨rfl, rfl, rfl⟩) le_rfl with }

theorem goto (h : s.Inv) {st : RxState} {r : Reception} (hst : st ≠ .idle) (hrx : s.rx = some r) (hr : r.consistent st) :
    (goto st s).Inv := by
  rw [← setRx_self hrx]
  exact h.receiving hst hr (h.contents r hrx).2

theorem setRx (h : s.Inv) {r : Reception} (hst : s.rxState ≠ .idle) (hr : r.consistent s.rxState)
    (hstart : r.start ≤ s.clock) : (setRx r s).Inv :=
  { h.receiving hst hr hstart with }

/-! The sequencer. -/

theorem toPhase (h : s.Inv) {p q : Phase} (hp : s.phase = q) (hd : p.driving = q.driving)
    (hf : p.sending = true → s.txFifo ≠ []) : (toPhase p s).Inv :=
  { h with
    direction := by rw [toPhase_de, h.direction, hp, toPhase_phase, hd]
    frame := hf }

/-- From one phase of a send attempt to the next. -/
theorem proceed (h : s.Inv) {p q : Phase} (hp : s.phase = q) (hd : p.driving = q.driving) (hq : q.sending = true) :
    (Machine.toPhase p s).Inv := h.toPhase hp hd fun _ => h.frame (hp ▸ hq)

/-- ASSERT and DEASSERT: the output follows the phase. -/
theorem drive (h : s.Inv) {p q : Phase} (hp : s.phase = q) (hq : q.sending = true) :
    (Machine.toPhase p (setDE p.driving s)).Inv :=
  { h with
    direction := rfl
    frame := fun _ => h.frame (hp ▸ hq) }

/-- COMMIT, after its stamp: the head leaves, and the attempt is over. -/
theorem commit (h : s.Inv) (hp : s.phase = .commit) (l : List Output) (r : TxResult) :
    (Machine.toPhase (.timeout r) (Machine.emit l (popTx s))).Inv :=
  { h with
    outbound := fun f hf => h.outbound f (List.mem_of_mem_tail hf)
    depths := ⟨h.depths.1, withinDepth_mono h.depths.2 (by simp)⟩
    direction := h.direction.trans (by rw [hp]; rfl)
    frame := by simp [Phase.sending] }

/-- The end of a TICK: the phase register is free and the host has its answer. -/
theorem endTick (h : s.Inv) {r : TxResult} (hp : s.phase = .timeout r) (a : Result) :
    (Machine.respond a (Machine.toPhase .idle s)).Inv :=
  (h.toPhase (p := .idle) hp rfl (by simp [Phase.sending])).respond a

end State.Inv

/-! ## The rows of the receiver -/

section Rows

variable {s t : State}

theorem atRow_discard_inv (h : s.Inv) {st : RxState} {c : Reception → Bool} {cause : DiscardCause}
    (he : atRow s st c (fun _ => .next (discard cause (stamp s))) = .next t) : t.Inv := by
  obtain ⟨-, r, -, -, ⟨⟩⟩ := atRow_next.mp he
  exact h.stamp.discard cause

theorem execIdleNul_inv (h : s.Inv) (he : execIdleNul s = .next t) : t.Inv := by
  obtain ⟨-, -, ⟨⟩⟩ := atIdle_next.mp he
  exact h.readClock

theorem execIdleSoh_inv (h : s.Inv) (he : execIdleSoh s = .next t) : t.Inv := by
  obtain ⟨-, -, ⟨⟩⟩ := atIdle_next.mp he
  exact h.stamp.startReception

theorem execIdleOther_inv (h : s.Inv) {b : Byte} (he : execIdleOther b s = .next t) : t.Inv := by
  obtain ⟨-, -, ⟨⟩⟩ := atIdle_next.mp he
  exact h.stamp

/-- What a receiver row finds: the reception fits the row's state, and began in the past. -/
theorem State.Inv.atRow (h : s.Inv) {st : RxState} {c : Reception → Bool} {k : Reception → Answer}
    (he : atRow s st c k = .next t) :
    ∃ r, s.rxState = st ∧ s.rx = some r ∧ r.consistent st ∧ r.start ≤ (Machine.stamp s).clock ∧ c r = true ∧
      k r = .next t := by
  obtain ⟨rfl, r, hrx, hc, hk⟩ := atRow_next.mp he
  exact ⟨r, rfl, hrx, (h.contents r hrx).1, (h.stamp.contents r hrx).2, hc, hk⟩

theorem execSohDstAccept_inv (h : s.Inv) {b : Byte} (he : execSohDstAccept b s = .next t) : t.Inv := by
  obtain ⟨r, -, -, hr, hstart, -, ⟨⟩⟩ := h.atRow he
  exact h.stamp.receiving (by decide) (hr.header (by decide) (by decide) rfl rfl rfl) hstart

theorem execDestSrc_inv (h : s.Inv) {b : Byte} (he : execDestSrc b s = .next t) : t.Inv := by
  obtain ⟨r, -, -, hr, hstart, -, ⟨⟩⟩ := h.atRow he
  exact h.stamp.receiving (by decide) (hr.header (by decide) (by decide) rfl rfl rfl) hstart

theorem execSrcTid_inv (h : s.Inv) {b : Byte} (he : execSrcTid b s = .next t) : t.Inv := by
  obtain ⟨r, -, -, hr, hstart, -, ⟨⟩⟩ := h.atRow he
  exact h.stamp.receiving (by decide) (hr.header (by decide) (by decide) rfl rfl rfl) hstart

theorem execTidLenOk_inv (h : s.Inv) {b : Byte} (he : execTidLenOk b s = .next t) : t.Inv := by
  obtain ⟨r, -, -, hr, hstart, hb, ⟨⟩⟩ := h.atRow he
  exact h.stamp.receiving (by decide) (hr.withLen (by simpa using hb)) hstart

theorem execLenStx_inv (h : s.Inv) (he : execLenStx s = .next t) : t.Inv := by
  obtain ⟨r, -, hrx, hr, -, -, ⟨⟩⟩ := h.atRow he
  exact h.stamp.goto (by decide) hrx hr.stx

theorem execStxEncHigh_inv (h : s.Inv) {n c : Nibble} (he : execStxEncHigh n c s = .next t) : t.Inv := by
  obtain ⟨r, hst, -, hr, hstart, -, ⟨⟩⟩ := h.atRow he
  exact h.stamp.setRx (by simp [hst]) (hst ▸ hr.takeHigh _) hstart

theorem execStxEncLow_inv (h : s.Inv) {c n : Nibble} (he : execStxEncLow c n s = .next t) : t.Inv := by
  obtain ⟨r, hst, -, hr, hstart, -, ⟨⟩⟩ := h.atRow he
  exact h.stamp.setRx (by simp [hst]) (hst ▸ hr.takeLow _) hstart

theorem execStxEtx_inv (h : s.Inv) (he : execStxEtx s = .next t) : t.Inv := by
  obtain ⟨r, -, hrx, hr, -, -, hk⟩ := h.atRow he
  split at hk <;> obtain ⟨⟩ := hk
  case isTrue hm => exact h.stamp.goto (by decide) hrx (hr.etx hm)
  case isFalse => exact h.stamp.discard _

theorem execEtxCrcMatch_inv (h : s.Inv) {b : Byte} (he : execEtxCrcMatch b s = .next t) : t.Inv := by
  obtain ⟨r, -, hrx, hr, -, -, ⟨⟩⟩ := h.atRow he
  exact h.stamp.goto (by decide) hrx hr.crcOk

theorem deliver_inv (h : s.Inv) {r : Reception} (hr : r.consistent .crcOk) : (deliver r s).Inv := by
  unfold deliver
  split
  case isTrue => exact h.discard _
  case isFalse hroom =>
    exact { h with
      reception := by simp
      contents := by simp
      inbound := by simpa [or_imp, forall_and, hr.messageOf] using h.inbound
      depths := ⟨by simpa using withinDepth_push (by simpa using hroom), h.depths.2⟩ }

theorem execCrcOkEot_inv (h : s.Inv) (he : execCrcOkEot s = .next t) : t.Inv := by
  obtain ⟨r, -, -, hr, -, -, ⟨⟩⟩ := h.atRow he
  exact deliver_inv h.stamp hr

/-- Every byte in every receiver state: the dispatch of rule R160, row by row. -/
theorem rxByte_inv (h : s.Inv) {b : Byte} (he : rxByte b s = .next t) : t.Inv := by
  unfold rxByte at he
  cases hst : s.rxState <;> simp only [hst] at he
  case idle =>
    split at he
    · exact execIdleNul_inv h he
    · split at he
      · exact execIdleSoh_inv h he
      · exact execIdleOther_inv h he
  case sohReceived =>
    split at he
    · exact execSohDstAccept_inv h he
    · exact atRow_discard_inv h he
  case destAddressReceived => exact execDestSrc_inv h he
  case srcAddressReceived => exact execSrcTid_inv h he
  case transactionIdReceived =>
    split at he
    · exact atRow_discard_inv h he
    · exact execTidLenOk_inv h he
  case messageLenReceived =>
    split at he
    · exact execLenStx_inv h he
    · exact atRow_discard_inv h he
  case stxReceived =>
    split at he <;> split at he
    · exact execStxEncHigh_inv h he
    · exact execStxEncLow_inv h he
    · exact execStxEtx_inv h he
    · exact atRow_discard_inv h he
  case etxReceived =>
    split at he
    · exact execEtxCrcMatch_inv h he
    · exact atRow_discard_inv h he
  case crcOk =>
    split at he
    · exact execCrcOkEot_inv h he
    · exact atRow_discard_inv h he

/-! ## The host operations -/

theorem hostOp_respond_inv (h : s.Inv) {r : Result} (he : hostOp s (.next (respond r s)) = .next t) : t.Inv := by
  obtain ⟨-, -, ⟨⟩⟩ := hostOp_next.mp he
  exact h.respond r

theorem portOp_respond_inv (h : s.Inv) {r : Result} (he : portOp s (.next (respond r s)) = .next t) : t.Inv := by
  obtain ⟨-, ⟨⟩⟩ := portOp_next.mp he
  exact h.respond r

theorem execConstruct_inv (h : s.Inv) {addr : Byte} {settle : Duration} {baud : Int} {completion : Completion}
    (he : execConstruct addr settle baud completion s = .next t) : t.Inv := by
  obtain ⟨hidle, hbody⟩ := portOp_next.mp he
  split at hbody
  · obtain ⟨⟩ := hbody
    exact h.respond _
  split at hbody
  · obtain ⟨⟩ := hbody
    exact h.respond _
  split at hbody <;> obtain ⟨⟩ := hbody
  next haddr hsettle hbaud =>
    exact {
      addr := by rwa [Bool.not_eq_true', Bool.not_eq_false] at haddr
      reception := by simp [constructed]
      contents := by simp [constructed]
      activity := le_rfl
      inbound := by simp [constructed]
      outbound := by simp [constructed]
      depths := ⟨fun _ _ => Nat.zero_le _, fun _ _ => Nat.zero_le _⟩
      settle := by rwa [Bool.not_eq_true', Bool.not_eq_false] at hsettle
      baud := by rwa [Bool.not_eq_true', Bool.not_eq_false] at hbaud
      direction := by simp [constructed, hidle, Phase.driving]
      frame := by simp [constructed, hidle, Phase.sending] }

theorem execTick_inv (h : s.Inv) (he : execTick s = .next t) : t.Inv := by
  obtain ⟨hidle, -, ⟨⟩⟩ := hostOp_next.mp he
  exact h.toPhase hidle rfl (by simp [Phase.sending])

theorem enqueueFrame_inv (h : s.Inv) (dest tid : Byte) (payload : List Byte) : (enqueueFrame dest payload tid s).Inv := by
  unfold enqueueFrame
  split
  · exact h.respond _
  split
  · exact h.respond _
  next hlen hroom =>
    have hframe : isEncodedFrame (frameBytes dest s.ownAddr tid payload) := by
      rw [Bool.not_eq_true', Bool.not_eq_false, payloadLengthOk, Bool.and_eq_true] at hlen
      exact ⟨_, _, _, _, of_decide_eq_true hlen.1, of_decide_eq_true hlen.2, rfl⟩
    exact { h with
      outbound := by simpa [or_imp, forall_and, hframe] using h.outbound
      depths := ⟨h.depths.1, by simpa using withinDepth_push (by simpa using hroom)⟩
      frame := by simp }

theorem execEnqueue_inv (h : s.Inv) {dest tid : Byte} {payload : List Byte}
    (he : execEnqueue dest payload tid s = .next t) : t.Inv := by
  obtain ⟨-, -, ⟨⟩⟩ := hostOp_next.mp he
  exact enqueueFrame_inv h dest tid payload

theorem execRead_inv (h : s.Inv) (he : execRead s = .next t) : t.Inv := by
  obtain ⟨-, -, hbody⟩ := hostOp_next.mp he
  split at hbody <;> obtain ⟨⟩ := hbody
  · exact h.respond _
  · exact { h with
      inbound := fun m hm => h.inbound m (List.mem_of_mem_tail hm)
      depths := ⟨withinDepth_mono h.depths.1 (by simp), h.depths.2⟩ }

theorem execSetAddr_inv (h : s.Inv) {a : Byte} (he : execSetAddr a s = .next t) : t.Inv := by
  obtain ⟨-, -, hbody⟩ := hostOp_next.mp he
  split at hbody <;> obtain ⟨⟩ := hbody
  case isTrue ha => exact { h with addr := ha }
  case isFalse => exact h.respond _

theorem execReply_inv (h : s.Inv) {m : Message} {payload : List Byte} {override : Bool}
    (he : execReply m payload override s = .next t) : t.Inv := by
  obtain ⟨-, -, hbody⟩ := hostOp_next.mp he
  split at hbody <;> obtain ⟨⟩ := hbody
  · exact h.respond _
  · exact enqueueFrame_inv h m.src m.tid payload

/-- Every command off the port, by its code (rule R103). -/
theorem exec_decodeCommand_inv (h : s.Inv) {c : Command} (he : exec (decodeCommand c) s = .next t) : t.Inv := by
  unfold decodeCommand at he
  split at he
  case h_1 => exact execConstruct_inv h he
  case h_2 => exact execTick_inv h he
  case h_3 => exact execEnqueue_inv h he
  case h_4 | h_5 | h_7 | h_9 => exact hostOp_respond_inv h he
  case h_6 => exact execRead_inv h he
  case h_8 => exact execSetAddr_inv h he
  case h_10 => exact execReply_inv h he
  all_goals exact portOp_respond_inv h he

/-! ## The rows of the sequencer -/

theorem execTxGate_inv (h : s.Inv) (he : execTxGate s = .next t) : t.Inv := by
  obtain ⟨hp, hbody⟩ := inPhase_next.mp he
  split at hbody
  · obtain ⟨⟩ := hbody
    exact h.toPhase hp rfl (by simp [Phase.sending])
  next hqueue =>
    split at hbody <;> obtain ⟨⟩ := hbody
    · exact h.readClock.toPhase hp rfl fun _ => hqueue
    · exact h.readClock.toPhase hp rfl (by simp [Phase.sending])

theorem execTxAssert_inv (h : s.Inv) (he : execTxAssert s = .next t) : t.Inv := by
  obtain ⟨hp, ⟨⟩⟩ := inPhase_next.mp he
  exact h.drive (p := .settle1) hp rfl

theorem execTxSettle1_inv (h : s.Inv) (he : execTxSettle1 s = .next t) : t.Inv := by
  obtain ⟨hp, ⟨⟩⟩ := inPhase_next.mp he
  exact (h.wait _).proceed hp rfl rfl

theorem execTxWrite_inv (h : s.Inv) (he : execTxWrite s = .next t) : t.Inv := by
  obtain ⟨hp, hbody⟩ := inPhase_next.mp he
  split at hbody <;> obtain ⟨⟩ := hbody <;> exact (h.chanWrite _).proceed hp rfl rfl

theorem execTxCompleteExact_inv (h : s.Inv) (he : execTxCompleteExact s = .next t) : t.Inv := by
  obtain ⟨hp, hbody⟩ := inPhase_next.mp he
  split at hbody
  case isFalse => cases hbody
  case isTrue =>
    split at hbody <;> obtain ⟨⟩ := hbody
    · exact h.chanDone.proceed hp rfl rfl
    · exact h.chanDone.proceed hp rfl rfl
    · exact h.chanDone

theorem execTxCompleteFlushEstimate_inv (h : s.Inv) (he : execTxCompleteFlushEstimate s = .next t) : t.Inv := by
  obtain ⟨hp, hbody⟩ := inPhase_next.mp he
  split at hbody
  case isFalse => cases hbody
  case isTrue =>
    split at hbody
    · obtain ⟨⟩ := hbody
      exact h.chanFlush.proceed hp rfl rfl
    · split at hbody <;> obtain ⟨⟩ := hbody
      exact (h.chanFlush.wait _).proceed hp rfl rfl

theorem execTxCompleteEstimate_inv (h : s.Inv) (he : execTxCompleteEstimate s = .next t) : t.Inv := by
  obtain ⟨hp, hbody⟩ := inPhase_next.mp he
  split at hbody
  case isFalse => cases hbody
  case isTrue =>
    split at hbody <;> obtain ⟨⟩ := hbody
    exact (h.wait _).proceed hp rfl rfl

theorem execTxDeassert_inv (h : s.Inv) (he : execTxDeassert s = .next t) : t.Inv := by
  unfold execTxDeassert at he
  split at he <;> obtain ⟨⟩ := he
  next ok hp => exact h.drive (p := .settle2 ok) hp rfl

theorem execTxSettle2_inv (h : s.Inv) (he : execTxSettle2 s = .next t) : t.Inv := by
  unfold execTxSettle2 at he
  split at he <;> obtain ⟨⟩ := he
  next ok hp => exact (h.wait _).proceed hp (by cases ok <;> rfl) rfl

theorem execTxCommit_inv (h : s.Inv) (he : execTxCommit s = .next t) : t.Inv := by
  obtain ⟨hp, ⟨⟩⟩ := inPhase_next.mp he
  exact h.stamp.commit hp _ _

theorem execTxFail_inv (h : s.Inv) (he : execTxFail s = .next t) : t.Inv := by
  obtain ⟨hp, ⟨⟩⟩ := inPhase_next.mp he
  exact (h.emit _).proceed hp rfl rfl

theorem execRxTimeout_inv (h : s.Inv) (he : execRxTimeout s = .next t) : t.Inv := by
  unfold execRxTimeout at he
  split at he
  case h_2 => cases he
  case h_1 r hp =>
    unfold rxTimeoutCheck at he
    split at he
    · obtain ⟨⟩ := he
      exact h.endTick hp _
    split at he
    · split at he <;> obtain ⟨⟩ := he
      · exact (h.readClock.discard _).endTick hp _
      · exact h.readClock.endTick hp _
    · cases he

/-- Every row the phase register selects (rule R203). -/
theorem exec_decodePhase_inv (h : s.Inv) {p : Phase} {m : Completion} {i : Instr} (hi : decodePhase p m = .instr i)
    (he : exec i s = .next t) : t.Inv := by
  cases p with
  | idle => cases hi
  | drain => cases hi; exact execTxGate_inv h he
  | assertDe => cases hi; exact execTxAssert_inv h he
  | settle1 => cases hi; exact execTxSettle1_inv h he
  | write => cases hi; exact execTxWrite_inv h he
  | complete =>
    cases m with
    | exact => cases hi; exact execTxCompleteExact_inv h he
    | flushEstimate => cases hi; exact execTxCompleteFlushEstimate_inv h he
    | estimate => cases hi; exact execTxCompleteEstimate_inv h he
  | deassert => cases hi; exact execTxDeassert_inv h he
  | settle2 => cases hi; exact execTxSettle2_inv h he
  | commit => cases hi; exact execTxCommit_inv h he
  | fail => cases hi; exact execTxFail_inv h he
  | timeout => cases hi; exact execRxTimeout_inv h he

end Rows

/-- Settles O45: by the kinds of steps; taking the word off the port or the channel touches nothing the invariant speaks
of. -/
theorem everyStepKeepsTheInvariant : Obligations.EveryStepKeepsTheInvariant := by
  intro s t h hstep
  rcases step_next_cases hstep with ⟨-, -, rfl⟩ | ⟨c, rest, -, -, he⟩ | ⟨b, rest, -, -, he⟩ | ⟨i, rest, -, hi, -, he⟩
  · exact h
  · exact exec_decodeCommand_inv (s := { s with commands := rest }) { h with } he
  · exact rxByte_inv (s := { s with chanRx := rest }) { h with } ((rxByte_eq_exec_decodeWire _ b).trans he)
  · exact exec_decodePhase_inv (s := { s with chanRx := rest }) { h with } hi he

end Sys2Proof.Machine
end

section
/-! PROOFS. The statements of 10_state.md: reception fields that no rule has written never matter (rule R25). What two
agreeing receptions become along the chain comes first, then one rule per guard and per kind of next state, then the rows. -/

namespace Sys2Proof

/-! ## Agreeing receptions, state by state -/

namespace Reception

variable {r r' : Reception}

theorem agree_refl (st : RxState) (r : Reception) : r.agree st r := by simp [agree]

section Fields

variable {st : RxState} (h : r.agree st r')
include h

theorem agree.start : r.start = r'.start := by
  obtain ⟨hstart, -⟩ := h
  exact hstart

theorem agree.first : r.first = r'.first := by
  obtain ⟨-, hfirst, -⟩ := h
  exact hfirst

theorem agree.crc (hst : 5 ≤ st.number) : r.crc = r'.crc := by
  obtain ⟨-, -, -, -, -, -, -, hlenCrc, -⟩ := h
  exact (hlenCrc hst).2

end Fields

theorem agree.withDst (h : r.agree .sohReceived r') (b : Byte) :
    ({ r with dst := b } : Reception).agree .destAddressReceived { r' with dst := b } := by
  simp_all [agree, RxState.number]

theorem agree.withSrc (h : r.agree .destAddressReceived r') (b : Byte) :
    ({ r with src := b } : Reception).agree .srcAddressReceived { r' with src := b } := by
  simp_all [agree, RxState.number]

theorem agree.withTid (h : r.agree .srcAddressReceived r') (b : Byte) :
    ({ r with tid := b } : Reception).agree .transactionIdReceived { r' with tid := b } := by
  simp_all [agree, RxState.number]

/-- The checksum starts from the destination and the source, which both are written by then. -/
theorem agree.checksumInit (h : r.agree .transactionIdReceived r') (b : Byte) :
    checksumInit r.dst r.src b = checksumInit r'.dst r'.src b := by
  simp_all [agree, RxState.number]

theorem agree.withLen (h : r.agree .transactionIdReceived r') (b : Byte) :
    ({ r with len := b, crc := Sys2Proof.checksumInit r.dst r.src b } : Reception).agree .messageLenReceived
      { r' with len := b, crc := Sys2Proof.checksumInit r'.dst r'.src b } := by
  simp_all [agree, RxState.number]

/-- The half byte is not compared while the flag says that a high nibble comes next. -/
theorem agree.stx (h : r.agree .messageLenReceived r') (hfirst : r.first = true) : r.agree .stxReceived r' := by
  simp_all [agree, RxState.number]

theorem agree.takeHigh (h : r.agree .stxReceived r') (b : Byte) :
    (Machine.takeHigh r b).agree .stxReceived (Machine.takeHigh r' b) := by
  simp_all [agree, RxState.number, Machine.takeHigh]

theorem agree.takeLow (h : r.agree .stxReceived r') (hfirst : r.first = false) (b : Byte) :
    (Machine.takeLow r b).agree .stxReceived (Machine.takeLow r' b) := by
  simp_all [agree, RxState.number, Machine.takeLow, Machine.completedByte]

theorem agree.etx (h : r.agree .stxReceived r') : r.agree .etxReceived r' := by
  simp_all [agree, RxState.number]

theorem agree.lengthMatches (h : r.agree .stxReceived r') : Machine.lengthMatches r = Machine.lengthMatches r' := by
  simp_all [agree, RxState.number, Machine.lengthMatches]

theorem agree.checksumMatches (h : r.agree .etxReceived r') (b : Byte) :
    Machine.checksumMatches r b = Machine.checksumMatches r' b := by
  rw [Machine.checksumMatches, h.crc (by decide), Machine.checksumMatches]

/-- The accumulator rows write the same value into both. -/
theorem agree.withCrc {st : RxState} (h : r.agree st r') (b : Byte) :
    ({ r with crc := b } : Reception).agree st { r' with crc := b } := by
  simp_all [agree]

theorem agree.crcOk (h : r.agree .etxReceived r') : r.agree .crcOk r' := by
  simp_all [agree, RxState.number]

theorem agree.messageOf (h : r.agree .crcOk r') : Machine.messageOf r = Machine.messageOf r' := by
  simp_all [agree, RxState.number, Machine.messageOf]

end Reception

end Sys2Proof

namespace Sys2Proof.Machine

/-! ## The guards and the next states -/

/-- The same machine with another reception. -/
def State.withRx (s : State) (x : Option Reception) : State := { s with rx := x }

theorem State.sameWritten.exists_withRx {s s' : State} (h : s.sameWritten s') : ∃ x, s' = s.withRx x := ⟨s'.rx, h.1⟩

@[simp] theorem withRx_rxState (s : State) (x : Option Reception) : (s.withRx x).rxState = s.rxState := rfl
@[simp] theorem withRx_rx (s : State) (x : Option Reception) : (s.withRx x).rx = x := rfl
@[simp] theorem withRx_phase (s : State) (x : Option Reception) : (s.withRx x).phase = s.phase := rfl
@[simp] theorem withRx_params (s : State) (x : Option Reception) : (s.withRx x).params = s.params := rfl
@[simp] theorem withRx_rxFifo (s : State) (x : Option Reception) : (s.withRx x).rxFifo = s.rxFifo := rfl
@[simp] theorem withRx_txFifo (s : State) (x : Option Reception) : (s.withRx x).txFifo = s.txFifo := rfl
@[simp] theorem withRx_nextWrite (s : State) (x : Option Reception) : (s.withRx x).nextWrite = s.nextWrite := rfl
@[simp] theorem withRx_nextDone (s : State) (x : Option Reception) : (s.withRx x).nextDone = s.nextDone := rfl
@[simp] theorem withRx_nextFlush (s : State) (x : Option Reception) : (s.withRx x).nextFlush = s.nextFlush := rfl

section Agreement

variable {rel : State → State → Prop} {s : State} {x : Option Reception}

theorem State.sameWritten.rx_cases (h : s.sameWritten (s.withRx x)) :
    (s.rx = none ∧ x = none) ∨ ∃ r r', s.rx = some r ∧ x = some r' ∧ r.agree s.rxState r' := by
  obtain ⟨-, hrx⟩ := h
  cases hr : s.rx <;> cases x <;> simp only [hr, withRx_rx] at hrx
  · exact .inl ⟨rfl, rfl⟩
  · exact .inr ⟨_, _, rfl, rfl, hrx⟩

theorem ite_agree {c c' : Prop} [Decidable c] [Decidable c'] {a a' b b' : Answer} (hc : c ↔ c')
    (ht : c → outcomesAgree rel a a') (hf : ¬c → outcomesAgree rel b b') :
    outcomesAgree rel (if c then a else b) (if c' then a' else b') := by
  by_cases h : c
  · rw [if_pos h, if_pos (hc.mp h)]; exact ht h
  · rw [if_neg h, if_neg (mt hc.mpr h)]; exact hf h

theorem hostOp_agree {a a' : Answer} (h : outcomesAgree rel a a') :
    outcomesAgree rel (hostOp s a) (hostOp (s.withRx x) a') :=
  ite_agree Iff.rfl (fun _ => ite_agree Iff.rfl (fun _ => h) fun _ => rfl) fun _ => rfl

theorem portOp_agree {a a' : Answer} (h : outcomesAgree rel a a') :
    outcomesAgree rel (portOp s a) (portOp (s.withRx x) a') :=
  ite_agree Iff.rfl (fun _ => h) fun _ => rfl

theorem inPhase_agree {p : Phase} {a a' : Answer} (h : outcomesAgree rel a a') :
    outcomesAgree rel (inPhase s p a) (inPhase (s.withRx x) p a') :=
  ite_agree Iff.rfl (fun _ => h) fun _ => rfl

theorem atIdle_agree {c : Bool} {a a' : Answer} (h : outcomesAgree rel a a') :
    outcomesAgree rel (atIdle s c a) (atIdle (s.withRx x) c a') :=
  ite_agree Iff.rfl (fun _ => ite_agree Iff.rfl (fun _ => h) fun _ => rfl) fun _ => rfl

/-- A receiver row runs on both receptions or on neither, when its condition reads written fields only. -/
theorem atRow_agree (h : s.sameWritten (s.withRx x)) {st : RxState} {c c' : Reception → Bool} {k k' : Reception → Answer}
    (hc : ∀ r r', r.agree st r' → c r = c' r')
    (hk : ∀ r r', s.rxState = st → s.rx = some r → x = some r' → r.agree st r' → c r = true →
      outcomesAgree rel (k r) (k' r')) :
    outcomesAgree rel (atRow s st c k) (atRow (s.withRx x) st c' k') := by
  refine ite_agree Iff.rfl (fun hst => ?_) fun _ => rfl
  rcases h.rx_cases with ⟨hr, rfl⟩ | ⟨r, r', hr, rfl, ha⟩ <;> rw [hr, withRx_rx]
  · rfl
  · rw [hst] at ha
    exact ite_agree (by rw [hc r r' ha]) (fun hcr => hk r r' hst hr rfl ha hcr) fun _ => rfl

/-- A row that leaves the receiver alone. -/
theorem blind_agree (h : s.sameWritten (s.withRx x)) {t t' : State} (ht : t' = t.withRx x) (hst : t.rxState = s.rxState)
    (hrx : t.rx = s.rx) : outcomesAgree State.sameWritten (.next t) (.next t') := by
  subst ht
  refine ⟨rfl, ?_⟩
  rw [hst, hrx]
  exact h.2

/-- A row after which both machines hold agreeing receptions. -/
theorem some_agree {t t' : State} {r r' : Reception} (ht : t' = t.withRx t'.rx) (hrx : t.rx = some r)
    (hrx' : t'.rx = some r') (h : r.agree t.rxState r') : outcomesAgree State.sameWritten (.next t) (.next t') := by
  refine ⟨ht, ?_⟩
  rw [hrx, hrx']
  exact h

/-- A row after which neither machine holds a reception. -/
theorem none_agree {t t' : State} (ht : t' = t.withRx t'.rx) (hrx : t.rx = none) (hrx' : t'.rx = none) :
    outcomesAgree State.sameWritten (.next t) (.next t') := by
  refine ⟨ht, ?_⟩
  rw [hrx, hrx']
  trivial

end Agreement

/-! ## The rows of the receiver -/

section Rows

variable {s : State} {x : Option Reception}

theorem execIdleNul_agree (h : s.sameWritten (s.withRx x)) :
    outcomesAgree State.sameWritten (execIdleNul s) (execIdleNul (s.withRx x)) :=
  atIdle_agree (blind_agree h rfl rfl rfl)

theorem execIdleSoh_agree : outcomesAgree State.sameWritten (execIdleSoh s) (execIdleSoh (s.withRx x)) :=
  atIdle_agree (some_agree rfl rfl rfl (Reception.agree_refl _ _))

theorem execIdleOther_agree (h : s.sameWritten (s.withRx x)) (b : Byte) :
    outcomesAgree State.sameWritten (execIdleOther b s) (execIdleOther b (s.withRx x)) :=
  atIdle_agree (blind_agree h rfl rfl rfl)

/-- The rows that end in a discard. -/
theorem atRow_discard_agree (h : s.sameWritten (s.withRx x)) {st : RxState} {c c' : Reception → Bool} (cause : DiscardCause)
    (hc : ∀ r r', r.agree st r' → c r = c' r') :
    outcomesAgree State.sameWritten (atRow s st c fun _ => .next (discard cause (stamp s)))
      (atRow (s.withRx x) st c' fun _ => .next (discard cause (stamp (s.withRx x)))) :=
  atRow_agree h hc fun _ _ _ _ _ _ _ => none_agree rfl rfl rfl

theorem execSohDstAccept_agree (h : s.sameWritten (s.withRx x)) (b : Byte) :
    outcomesAgree State.sameWritten (execSohDstAccept b s) (execSohDstAccept b (s.withRx x)) :=
  atRow_agree h (fun _ _ _ => rfl) fun _ _ _ _ _ ha _ => some_agree rfl rfl rfl (ha.withDst b)

theorem execSohDstReject_agree (h : s.sameWritten (s.withRx x)) (b : Byte) :
    outcomesAgree State.sameWritten (execSohDstReject b s) (execSohDstReject b (s.withRx x)) :=
  atRow_discard_agree h _ fun _ _ _ => rfl

theorem execDestSrc_agree (h : s.sameWritten (s.withRx x)) (b : Byte) :
    outcomesAgree State.sameWritten (execDestSrc b s) (execDestSrc b (s.withRx x)) :=
  atRow_agree h (fun _ _ _ => rfl) fun _ _ _ _ _ ha _ => some_agree rfl rfl rfl (ha.withSrc b)

theorem execSrcTid_agree (h : s.sameWritten (s.withRx x)) (b : Byte) :
    outcomesAgree State.sameWritten (execSrcTid b s) (execSrcTid b (s.withRx x)) :=
  atRow_agree h (fun _ _ _ => rfl) fun _ _ _ _ _ ha _ => some_agree rfl rfl rfl (ha.withTid b)

theorem execTidLenOk_agree (h : s.sameWritten (s.withRx x)) (b : Byte) :
    outcomesAgree State.sameWritten (execTidLenOk b s) (execTidLenOk b (s.withRx x)) :=
  atRow_agree h (fun _ _ _ => rfl) fun _ _ _ _ _ ha _ => some_agree rfl rfl rfl (ha.withLen b)

theorem execLenStx_agree (hinv : s.Inv) (h : s.sameWritten (s.withRx x)) :
    outcomesAgree State.sameWritten (execLenStx s) (execLenStx (s.withRx x)) :=
  atRow_agree h (fun _ _ _ => rfl) fun r _ hst hrx hrx' ha _ => by
    have hr : r.consistent .messageLenReceived := hst ▸ (hinv.contents r hrx).1
    obtain ⟨-, hfirst, -⟩ := Reception.consistent_messageLen_iff.mp hr
    exact some_agree rfl hrx hrx' (ha.stx hfirst)

theorem execStxEncHigh_agree (h : s.sameWritten (s.withRx x)) (n c : Nibble) :
    outcomesAgree State.sameWritten (execStxEncHigh n c s) (execStxEncHigh n c (s.withRx x)) :=
  atRow_agree h (fun _ _ ha => by rw [ha.first]) fun _ _ hst _ _ ha _ =>
    some_agree rfl rfl rfl (hst ▸ ha.takeHigh _)

theorem execStxEncLow_agree (h : s.sameWritten (s.withRx x)) (c n : Nibble) :
    outcomesAgree State.sameWritten (execStxEncLow c n s) (execStxEncLow c n (s.withRx x)) :=
  atRow_agree h (fun _ _ ha => by rw [ha.first]) fun _ _ hst _ _ ha hc => by
    have hfirst := Bool.and_elim_right hc
    exact some_agree rfl rfl rfl (hst ▸ ha.takeLow (by simpa using hfirst) _)

theorem execStxEtx_agree (h : s.sameWritten (s.withRx x)) :
    outcomesAgree State.sameWritten (execStxEtx s) (execStxEtx (s.withRx x)) :=
  atRow_agree h (fun _ _ _ => rfl) fun _ _ _ hrx hrx' ha _ =>
    ite_agree (by rw [ha.lengthMatches]) (fun _ => some_agree rfl hrx hrx' ha.etx) fun _ => none_agree rfl rfl rfl

theorem execEtxCrcMatch_agree (h : s.sameWritten (s.withRx x)) (b : Byte) :
    outcomesAgree State.sameWritten (execEtxCrcMatch b s) (execEtxCrcMatch b (s.withRx x)) :=
  atRow_agree h (fun _ _ ha => ha.checksumMatches b) fun _ _ _ hrx hrx' ha _ => some_agree rfl hrx hrx' ha.crcOk

theorem execEtxCrcMismatch_agree (h : s.sameWritten (s.withRx x)) (b : Byte) :
    outcomesAgree State.sameWritten (execEtxCrcMismatch b s) (execEtxCrcMismatch b (s.withRx x)) :=
  atRow_discard_agree h _ fun _ _ ha => by rw [ha.checksumMatches b]

theorem deliver_agree {r r' : Reception} (ha : r.agree .crcOk r') :
    outcomesAgree State.sameWritten (.next (deliver r s)) (.next (deliver r' (s.withRx x))) := by
  unfold deliver
  rw [withRx_params, withRx_rxFifo, ha.messageOf]
  split <;> exact none_agree rfl rfl rfl

theorem execCrcOkEot_agree (h : s.sameWritten (s.withRx x)) :
    outcomesAgree State.sameWritten (execCrcOkEot s) (execCrcOkEot (s.withRx x)) :=
  atRow_agree h (fun _ _ _ => rfl) fun _ _ _ _ _ ha _ => deliver_agree (s := stamp s) ha

theorem wireContext_none {s : State} (h : s.rx = none) :
    wireContext s = { rxState := s.rxState, ownAddr := s.ownAddr, first := true, crc := 0#8 } := by
  simp [wireContext, h]

theorem wireContext_first_agree (h : s.sameWritten (s.withRx x)) :
    (wireContext s).first = (wireContext (s.withRx x)).first := by
  rcases h.rx_cases with ⟨hr, rfl⟩ | ⟨r, r', hr, rfl, ha⟩
  · rw [wireContext_none hr, wireContext_none (withRx_rx s none)]
  · rw [wireContext_first hr, wireContext_first (withRx_rx s (some r')), ha.first]

theorem wireContext_crc_agree (h : s.sameWritten (s.withRx x)) (hst : s.rxState = .etxReceived) :
    (wireContext s).crc = (wireContext (s.withRx x)).crc := by
  rcases h.rx_cases with ⟨hr, rfl⟩ | ⟨r, r', hr, rfl, ha⟩
  · rw [wireContext_none hr, wireContext_none (withRx_rx s none)]
  · rw [wireContext_crc hr, wireContext_crc (withRx_rx s (some r')), ha.crc (by rw [hst]; decide)]

/-- Every byte in every receiver state: the dispatch itself reads written fields only. -/
theorem rxByte_agree (hinv : s.Inv) (h : s.sameWritten (s.withRx x)) (b : Byte) :
    outcomesAgree State.sameWritten (rxByte b s) (rxByte b (s.withRx x)) := by
  unfold rxByte
  rw [withRx_rxState]
  cases hst : s.rxState with
  | idle =>
    refine ite_agree Iff.rfl (fun _ => execIdleNul_agree h) fun _ => ?_
    exact ite_agree Iff.rfl (fun _ => execIdleSoh_agree) fun _ => execIdleOther_agree h b
  | sohReceived => exact ite_agree Iff.rfl (fun _ => execSohDstAccept_agree h b) fun _ => execSohDstReject_agree h b
  | destAddressReceived => exact execDestSrc_agree h b
  | srcAddressReceived => exact execSrcTid_agree h b
  | transactionIdReceived =>
    exact ite_agree Iff.rfl (fun _ => atRow_discard_agree h _ fun _ _ _ => rfl) fun _ => execTidLenOk_agree h b
  | messageLenReceived =>
    exact ite_agree Iff.rfl (fun _ => execLenStx_agree hinv h) fun _ => atRow_discard_agree h _ fun _ _ _ => rfl
  | stxReceived =>
    refine ite_agree Iff.rfl (fun _ => ?_) fun _ => ?_
    · exact ite_agree (by rw [wireContext_first_agree h]) (fun _ => execStxEncHigh_agree h _ _) fun _ =>
        execStxEncLow_agree h _ _
    · exact ite_agree Iff.rfl (fun _ => execStxEtx_agree h) fun _ => atRow_discard_agree h _ fun _ _ _ => rfl
  | etxReceived =>
    exact ite_agree (by rw [wireContext_crc_agree h hst]) (fun _ => execEtxCrcMatch_agree h b) fun _ =>
      execEtxCrcMismatch_agree h b
  | crcOk => exact ite_agree Iff.rfl (fun _ => execCrcOkEot_agree h) fun _ => atRow_discard_agree h _ fun _ _ _ => rfl

/-- The timeout check reads the reception's start only. -/
theorem execRxTimeout_agree (h : s.sameWritten (s.withRx x)) :
    outcomesAgree State.sameWritten (execRxTimeout s) (execRxTimeout (s.withRx x)) := by
  unfold execRxTimeout
  rw [withRx_phase]
  split
  case h_2 => rfl
  case h_1 a _ =>
    refine ite_agree Iff.rfl (fun _ => blind_agree h rfl rfl rfl) fun _ => ?_
    rcases h.rx_cases with ⟨hr, rfl⟩ | ⟨r, r', hr, rfl, ha⟩ <;> rw [hr, withRx_rx]
    · rfl
    · exact ite_agree (by rw [timedOut, ha.start]; rfl) (fun _ => none_agree rfl rfl rfl) fun _ =>
        some_agree rfl hr rfl ha

/-! ## The host operations -/

theorem execConstruct_agree (h : s.sameWritten (s.withRx x)) (addr : Byte) (settle : Duration) (baud : Int)
    (completion : Completion) :
    outcomesAgree State.sameWritten (execConstruct addr settle baud completion s)
      (execConstruct addr settle baud completion (s.withRx x)) :=
  portOp_agree <| ite_agree Iff.rfl (fun _ => blind_agree h rfl rfl rfl) fun _ =>
    ite_agree Iff.rfl (fun _ => blind_agree h rfl rfl rfl) fun _ =>
      ite_agree Iff.rfl (fun _ => rfl) fun _ => none_agree rfl rfl rfl

theorem enqueueFrame_agree (h : s.sameWritten (s.withRx x)) (dest tid : Byte) (payload : List Byte) :
    outcomesAgree State.sameWritten (.next (enqueueFrame dest payload tid s))
      (.next (enqueueFrame dest payload tid (s.withRx x))) := by
  refine blind_agree h ?_ ?_ ?_ <;> unfold enqueueFrame
  · rw [withRx_params, withRx_txFifo]
    split
    · rfl
    · split <;> rfl
  all_goals
    split
    · rfl
    · split <;> rfl

theorem execRead_agree (h : s.sameWritten (s.withRx x)) :
    outcomesAgree State.sameWritten (execRead s) (execRead (s.withRx x)) := by
  refine hostOp_agree ?_
  rw [withRx_rxFifo]
  split <;> exact blind_agree h rfl rfl rfl

theorem execSetAddr_agree (h : s.sameWritten (s.withRx x)) (a : Byte) :
    outcomesAgree State.sameWritten (execSetAddr a s) (execSetAddr a (s.withRx x)) :=
  hostOp_agree <| ite_agree Iff.rfl (fun _ => blind_agree h rfl rfl rfl) fun _ => blind_agree h rfl rfl rfl

theorem execReply_agree (h : s.sameWritten (s.withRx x)) (m : Message) (payload : List Byte) (override : Bool) :
    outcomesAgree State.sameWritten (execReply m payload override s) (execReply m payload override (s.withRx x)) :=
  hostOp_agree <| ite_agree Iff.rfl (fun _ => blind_agree h rfl rfl rfl) fun _ => enqueueFrame_agree h _ _ _

/-! ## The rows of the sequencer -/

theorem execTxGate_agree (h : s.sameWritten (s.withRx x)) :
    outcomesAgree State.sameWritten (execTxGate s) (execTxGate (s.withRx x)) :=
  inPhase_agree <| ite_agree Iff.rfl (fun _ => blind_agree h rfl rfl rfl) fun _ =>
    ite_agree Iff.rfl (fun _ => blind_agree h rfl rfl rfl) fun _ => blind_agree h rfl rfl rfl

theorem execTxWrite_agree (h : s.sameWritten (s.withRx x)) :
    outcomesAgree State.sameWritten (execTxWrite s) (execTxWrite (s.withRx x)) := by
  refine inPhase_agree ?_
  rw [withRx_nextWrite]
  split <;> exact blind_agree h rfl rfl rfl

theorem execTxCompleteExact_agree (h : s.sameWritten (s.withRx x)) :
    outcomesAgree State.sameWritten (execTxCompleteExact s) (execTxCompleteExact (s.withRx x)) := by
  refine inPhase_agree <| ite_agree Iff.rfl (fun _ => ?_) fun _ => rfl
  rw [withRx_nextDone]
  split <;> exact blind_agree h rfl rfl rfl

theorem execTxCompleteFlushEstimate_agree (h : s.sameWritten (s.withRx x)) :
    outcomesAgree State.sameWritten (execTxCompleteFlushEstimate s) (execTxCompleteFlushEstimate (s.withRx x)) := by
  refine inPhase_agree <| ite_agree Iff.rfl (fun _ => ?_) fun _ => rfl
  rw [withRx_nextFlush]
  split
  · exact blind_agree h rfl rfl rfl
  · exact ite_agree Iff.rfl (fun _ => blind_agree h rfl rfl rfl) fun _ => rfl

theorem execTxCompleteEstimate_agree (h : s.sameWritten (s.withRx x)) :
    outcomesAgree State.sameWritten (execTxCompleteEstimate s) (execTxCompleteEstimate (s.withRx x)) :=
  inPhase_agree <| ite_agree Iff.rfl
    (fun _ => ite_agree Iff.rfl (fun _ => blind_agree h rfl rfl rfl) fun _ => rfl) fun _ => rfl

theorem execTxDeassert_agree (h : s.sameWritten (s.withRx x)) :
    outcomesAgree State.sameWritten (execTxDeassert s) (execTxDeassert (s.withRx x)) := by
  unfold execTxDeassert
  rw [withRx_phase]
  split
  · exact blind_agree h rfl rfl rfl
  · rfl

theorem execTxSettle2_agree (h : s.sameWritten (s.withRx x)) :
    outcomesAgree State.sameWritten (execTxSettle2 s) (execTxSettle2 (s.withRx x)) := by
  unfold execTxSettle2
  rw [withRx_phase]
  split
  · exact blind_agree h rfl rfl rfl
  · rfl

/-! ## The accumulator rows -/

theorem execCrcInit_agree (h : s.sameWritten (s.withRx x)) (b : Byte) :
    outcomesAgree State.sameWritten (execCrcInit b s) (execCrcInit b (s.withRx x)) :=
  atRow_agree h (fun _ _ _ => rfl) fun _ _ hst _ _ ha _ => by
    rw [ha.checksumInit b]
    exact some_agree rfl rfl rfl (hst ▸ ha.withCrc _)

theorem execCrcFold_agree (h : s.sameWritten (s.withRx x)) (d : Byte) :
    outcomesAgree State.sameWritten (execCrcFold d s) (execCrcFold d (s.withRx x)) :=
  atRow_agree h (fun _ _ _ => rfl) fun _ _ hst _ _ ha _ => by
    rw [ha.crc (by decide)]
    exact some_agree rfl rfl rfl (hst ▸ ha.withCrc _)

theorem execCrcCheck_agree (h : s.sameWritten (s.withRx x)) (b : Byte) :
    outcomesAgree State.sameWritten (execCrcCheck b s) (execCrcCheck b (s.withRx x)) :=
  atRow_agree h (fun _ _ _ => rfl) fun _ _ _ _ _ ha _ => by
    rw [ha.checksumMatches b]
    exact blind_agree h rfl rfl rfl

/-! ## Every row, and every step -/

theorem exec_agree (hinv : s.Inv) (h : s.sameWritten (s.withRx x)) (i : Instr) :
    outcomesAgree State.sameWritten (exec i s) (exec i (s.withRx x)) := by
  cases i with
  | idleNul => exact execIdleNul_agree h
  | idleSoh => exact execIdleSoh_agree
  | idleOther b => exact execIdleOther_agree h b
  | sohDstAccept b => exact execSohDstAccept_agree h b
  | sohDstReject b => exact execSohDstReject_agree h b
  | destSrc b => exact execDestSrc_agree h b
  | srcTid b => exact execSrcTid_agree h b
  | tidLenOk b => exact execTidLenOk_agree h b
  | lenStx => exact execLenStx_agree hinv h
  | stxEncHigh n c => exact execStxEncHigh_agree h n c
  | stxEncLow c n => exact execStxEncLow_agree h c n
  | stxEtx => exact execStxEtx_agree h
  | etxCrcMatch b => exact execEtxCrcMatch_agree h b
  | etxCrcMismatch b => exact execEtxCrcMismatch_agree h b
  | crcOkEot => exact execCrcOkEot_agree h
  | tidLenZero | lenOther | stxOther | crcOkOther => exact atRow_discard_agree h _ fun _ _ _ => rfl
  | rxTimeout => exact execRxTimeout_agree h
  | symNul | symSoh | symStx | symEtx | symEot | symLf | symEnc => exact rxByte_agree hinv h _
  | construct addr settle baud completion => exact execConstruct_agree h addr settle baud completion
  | enqueue dest payload tid => exact hostOp_agree (enqueueFrame_agree h dest tid payload)
  | read => exact execRead_agree h
  | setAddr a => exact execSetAddr_agree h a
  | reply m payload override => exact execReply_agree h m payload override
  | tick | pending | available | getAddr | isBroadcast => exact hostOp_agree (blind_agree h rfl rfl rfl)
  | unassignedAB | unassignedCF => exact portOp_agree (blind_agree h rfl rfl rfl)
  | txGate => exact execTxGate_agree h
  | txWrite => exact execTxWrite_agree h
  | txCompleteExact => exact execTxCompleteExact_agree h
  | txCompleteFlushEstimate => exact execTxCompleteFlushEstimate_agree h
  | txCompleteEstimate => exact execTxCompleteEstimate_agree h
  | txDeassert => exact execTxDeassert_agree h
  | txSettle2 => exact execTxSettle2_agree h
  | txAssert | txSettle1 | txCommit | txFail => exact inPhase_agree (blind_agree h rfl rfl rfl)
  | crcInit b => exact execCrcInit_agree h b
  | crcFold d => exact execCrcFold_agree h d
  | crcCheck b => exact execCrcCheck_agree h b
  | symEncHigh | symEncLow | isValidNodeAddress | isValidSlaveAddress | valid | decPair | encodeFrame =>
    exact blind_agree h rfl rfl rfl

/-- Inside a TICK the phase register always selects a row. -/
theorem decodePhase_of_ne_idle {p : Phase} (hp : p ≠ .idle) (m : Completion) : ∃ i, decodePhase p m = .instr i := by
  cases p with
  | idle => exact absurd rfl hp
  | complete => cases m <;> exact ⟨_, rfl⟩
  | _ => exact ⟨_, rfl⟩

/-- Both machines take the same unit of work, and the word that is taken away is not part of the reception. -/
theorem step_agree (hinv : s.Inv) (h : s.sameWritten (s.withRx x)) :
    outcomesAgree State.sameWritten (step s) (step (s.withRx x)) := by
  by_cases hidle : s.phase = .idle
  · rcases hc : s.commands with _ | ⟨c, rest⟩
    · rw [step_passive hidle hc, step_passive (s := s.withRx x) hidle hc]
      exact h
    · rw [step_command hidle hc, step_command (s := s.withRx x) hidle hc]
      exact exec_agree (s := { s with commands := rest }) { hinv with } ⟨rfl, h.2⟩ _
  by_cases hdrain : s.phase = .drain
  · have taken (rest : List RxItem) : ({ s with chanRx := rest } : State).sameWritten { s.withRx x with chanRx := rest } :=
      ⟨rfl, h.2⟩
    have gate (rest : List RxItem)
        (hend : (s.chanRx = [] ∧ rest = s.chanRx) ∨ s.chanRx = .noByte :: rest ∨ s.chanRx = .silence :: rest) :
        outcomesAgree State.sameWritten (step s) (step (s.withRx x)) := by
      rw [step_gate hdrain hend, step_gate (s := s.withRx x) hdrain hend]
      exact execTxGate_agree (s := { s with chanRx := rest }) (taken rest)
    cases hb : s.chanRx with
    | nil => exact gate _ (.inl ⟨hb, rfl⟩)
    | cons y rest =>
      cases y with
      | byte b =>
        rw [step_byte hdrain hb, step_byte (s := s.withRx x) hdrain hb]
        have hrow := rxByte_agree (s := { s with chanRx := rest }) { hinv with } (taken rest) b
        rwa [rxByte_eq_exec_decodeWire, rxByte_eq_exec_decodeWire] at hrow
      | noByte => exact gate rest (.inr (.inl hb))
      | silence => exact gate rest (.inr (.inr hb))
      | failure => rw [step_failure hdrain hb, step_failure (s := s.withRx x) hdrain hb]; rfl
  · obtain ⟨i, hi⟩ := decodePhase_of_ne_idle hidle s.params.completion
    rw [step_phase hidle hdrain hi, step_phase (s := s.withRx x) hidle hdrain hi]
    exact exec_agree hinv h i

end Rows

/-- Settles O54: every row of its own, and the row a step runs, agree on the two states, because each reads only fields
written by its receiver state. -/
theorem unwrittenFieldsNeverMatter : Obligations.UnwrittenFieldsNeverMatter := by
  intro s s' hinv h
  obtain ⟨x, rfl⟩ := h.exists_withRx
  exact ⟨step_agree hinv h, exec_agree hinv h⟩

end Sys2Proof.Machine
end

section
/-! PROOFS. The statement of 20_memory.md: who writes the outbound FIFO. -/

namespace Sys2Proof.Machine

/-- A host operation leaves the outbound FIFO alone, appends the one frame of an ENQUEUE or a REPLY, or empties it by a
CONSTRUCT. -/
theorem host_writes_txFifo {s t : State} {c : Command} (he : exec (decodeCommand c) s = .next t) :
    t.txFifo = s.txFifo ∨
    (1 ≤ c.payload.length ∧ c.payload.length ≤ 255 ∧
      ((c.code = 2#4 ∧ t.txFifo = s.txFifo ++ [frameBytes c.addr s.ownAddr c.tid c.payload]) ∨
        (c.code = 9#4 ∧ (c.message.dst = 255#8 → c.override = true) ∧
          t.txFifo = s.txFifo ++ [frameBytes c.message.src s.ownAddr c.message.tid c.payload]))) ∨
    (c.code = 0#4 ∧ t.txFifo = []) := by
  rcases host_effect he with
    ⟨hcode, ht | ⟨-, -, -, -, -, hempty, -⟩⟩ | ht | ⟨-, ht, -⟩ | ⟨-, m, -, ht⟩ |
    ⟨hmin, hmax, ⟨hcode, ht⟩ | ⟨hcode, hoverride, ht⟩⟩
  case inl.inr => exact .inr (.inr ⟨hcode, hempty⟩)
  case inr.inr.inr.inr.inl =>
    exact .inr (.inl ⟨hmin, hmax, .inl ⟨hcode, (congrArg State.txFifo ht :)⟩⟩)
  case inr.inr.inr.inr.inr =>
    exact .inr (.inl ⟨hmin, hmax, .inr ⟨hcode, hoverride, (congrArg State.txFifo ht :)⟩⟩)
  all_goals exact .inl (congrArg State.txFifo ht :)

/-- Settles O50: of the four kinds of step, only a host operation appends or empties, and only the commit row removes. -/
theorem outboundFifoIsStrict : Obligations.OutboundFifoIsStrict := by
  intro s t h
  rcases step_next_cases h with ⟨-, -, rfl⟩ | ⟨c, rest, hp, hc, he⟩ | ⟨b, rest, -, -, he⟩ | ⟨i, rest, -, hi, -, he⟩
  · exact .inl rfl
  · rcases host_writes_txFifo he with hkeep | ⟨hmin, hmax, happend⟩ | ⟨hcode, hempty⟩
    · exact .inl hkeep
    · exact .inr (.inr (.inl ⟨c, rest, hp, hc, hmin, hmax, happend⟩))
    · exact .inr (.inr (.inr ⟨c, rest, hp, hc, hcode, hempty⟩))
  · obtain ⟨hframe, -⟩ := wire_effect (s := { s with chanRx := rest }) he
    exact .inl (congrArg State.txFifo hframe :)
  · obtain ⟨-, -, -, -, -, -, -, -, htx, -⟩ := phase_effect hi he
    exact htx.imp_right .inl

end Sys2Proof.Machine
end

section
/-! PROOFS. The statements of 30_encoding.md: the decoder and the encoder agree both ways, the valid encoded bytes, the
layout of a frame, and the unassigned operation codes. -/

namespace Sys2Proof.Laws.SelectedWordDecodes

/-- The law of every row, row by row. -/
theorem statement_holds : ∀ i : Instr, Statement i
  | .idleNul => idleNul
  | .idleSoh => idleSoh
  | .idleOther b => idleOther b
  | .sohDstAccept dst => sohDstAccept dst
  | .sohDstReject dst => sohDstReject dst
  | .destSrc src => destSrc src
  | .srcTid tid => srcTid tid
  | .tidLenOk len => tidLenOk len
  | .tidLenZero => tidLenZero
  | .lenStx => lenStx
  | .lenOther b => lenOther b
  | .stxEncHigh h c => stxEncHigh h c
  | .stxEncLow c l => stxEncLow c l
  | .stxEtx => stxEtx
  | .stxOther b => stxOther b
  | .etxCrcMatch crc => etxCrcMatch crc
  | .etxCrcMismatch crc => etxCrcMismatch crc
  | .crcOkEot => crcOkEot
  | .crcOkOther b => crcOkOther b
  | .rxTimeout => rxTimeout
  | .symNul => symNul
  | .symSoh => symSoh
  | .symStx => symStx
  | .symEtx => symEtx
  | .symEot => symEot
  | .symLf => symLf
  | .symEnc h c => symEnc h c
  | .symEncHigh p => symEncHigh p
  | .symEncLow p => symEncLow p
  | .construct addr settle baud completion => construct addr settle baud completion
  | .tick => tick
  | .enqueue dest payload tid => enqueue dest payload tid
  | .pending => pending
  | .available => available
  | .read => read
  | .getAddr => getAddr
  | .setAddr a => setAddr a
  | .isBroadcast m => isBroadcast m
  | .reply m payload override => reply m payload override
  | .unassignedAB x => unassignedAB x
  | .unassignedCF x => unassignedCF x
  | .txGate => txGate
  | .txAssert => txAssert
  | .txSettle1 => txSettle1
  | .txWrite => txWrite
  | .txCompleteExact => txCompleteExact
  | .txCompleteFlushEstimate => txCompleteFlushEstimate
  | .txCompleteEstimate => txCompleteEstimate
  | .txDeassert => txDeassert
  | .txSettle2 => txSettle2
  | .txCommit => txCommit
  | .txFail => txFail
  | .isValidNodeAddress a => isValidNodeAddress a
  | .isValidSlaveAddress a => isValidSlaveAddress a
  | .valid b => valid b
  | .decPair b1 b2 => decPair b1 b2
  | .encodeFrame dst src tid payload => encodeFrame dst src tid payload
  | .crcInit b => crcInit b
  | .crcFold d => crcFold d
  | .crcCheck b => crcCheck b

/-- Settles O2: every row has its law. -/
theorem selectedWordDecodesToItsRow : Obligations.SelectedWordDecodesToItsRow := statement_holds

end Sys2Proof.Laws.SelectedWordDecodes

namespace Sys2Proof

/-! ## What the decoder answers, context by context -/

/-- The row is the one its context selects, with operands the row can have. -/
def Context.admits (x : Context) (i : Instr) : Prop := x.selects i = true ∧ i.wellFormed = true

theorem admits_decodeCommand (c : Command) : Context.port.admits (decodeCommand c) := by
  unfold decodeCommand
  split <;> exact ⟨rfl, rfl⟩

theorem admits_decodeWire (k : WireContext) (b : Byte) : (Context.wire k).admits (decodeWire k b) := by
  unfold decodeWire
  cases h : k.rxState with
  | idle | sohReceived | transactionIdReceived | messageLenReceived | etxReceived | crcOk =>
    simp only
    split_ifs <;> simp_all [Context.admits, Context.selects, Instr.wellFormed]
  | destAddressReceived | srcAddressReceived => simp [Context.admits, Context.selects, Instr.wellFormed, h]
  | stxReceived =>
    simp only [validByte_eq]
    split_ifs <;> simp_all [Context.admits, Context.selects, Instr.wellFormed, validByte_eq]

/-- Only a valid encoded byte is of class ENC: the converse of `byteClass_enc_of_valid`. -/
theorem valid_of_byteClass_enc {b : Byte} (h : byteClass b = .enc) : validByte b = true := by
  revert b; decide

theorem admits_decodeSymbol {b : Byte} {i : Instr} (h : decodeSymbol b = .instr i) : Context.symbol.admits i := by
  unfold decodeSymbol at h
  split at h
  case h_7 hclass =>
    cases h
    exact ⟨rfl, (validByte_eq b).symm.trans (valid_of_byteClass_enc hclass)⟩
  case h_8 => cases h
  all_goals cases h; exact ⟨rfl, rfl⟩

theorem admits_decodePhase {p : Phase} {mode : Completion} {i : Instr} (h : decodePhase p mode = .instr i) :
    (Context.sequencer p mode).admits i := by
  cases p with
  | idle => cases h
  | complete => cases mode <;> cases h <;> exact ⟨rfl, rfl⟩
  | deassert ok | settle2 ok => cases ok <;> cases h <;> exact ⟨rfl, rfl⟩
  | timeout r => cases r <;> cases h <;> exact ⟨rfl, rfl⟩
  | _ => cases h; exact ⟨rfl, rfl⟩

/-- A word that decodes is of its context's kind, and that context's decoder admits what it answers. -/
theorem admits_decode {x : Context} {w : EncodedWord} {i : Instr} (h : decode x w = .instr i) : x.admits i := by
  unfold decode at h
  split at h
  case h_1 c => cases h; exact admits_decodeCommand c
  case h_2 k b => cases h; exact admits_decodeWire k b
  case h_3 => exact admits_decodeSymbol h
  case h_4 => exact admits_decodePhase h
  all_goals cases h

/-- No row drops a bit of its byte: it holds the byte, or the byte's two nibbles, or stands for that one value. -/
theorem encode_decodeWire (k : WireContext) (b : Byte) : encode (decodeWire k b) = .byte b := by
  unfold decodeWire
  cases k.rxState with
  | destAddressReceived | srcAddressReceived => rfl
  | idle | sohReceived | transactionIdReceived | messageLenReceived | etxReceived | crcOk =>
    simp only
    split_ifs <;> simp [encode, NUL, SOH, STX, EOT, *]
  | stxReceived =>
    simp only
    split_ifs <;> simp [encode, ETX, joinNibbles_split, *]

/-- Settles O3: `decode` context by context, and the receiver's row back to its byte. -/
theorem decodedRowIsSelectedAndKeepsItsByte : Obligations.DecodedRowIsSelectedAndKeepsItsByte :=
  ⟨fun _ _ _ => admits_decode, encode_decodeWire⟩

/-! ## The bytes of a frame -/

theorem encodeBody_getElem?_even (l : List Byte) (k : Nat) : (encodeBody l)[2 * k]? = l[k]?.map encHigh := by
  induction l generalizing k with
  | nil => rfl
  | cons p l ih =>
    cases k with
    | zero => rfl
    | succ k => exact ih k

theorem encodeBody_getElem?_odd (l : List Byte) (k : Nat) : (encodeBody l)[2 * k + 1]? = l[k]?.map encLow := by
  induction l generalizing k with
  | nil => rfl
  | cons p l ih =>
    cases k with
    | zero => rfl
    | succ k => exact ih k

section Frame

variable (dst src tid : Byte) (payload : List Byte)

/-- The nine bytes before the encoded body. -/
def frameHeader : List Byte := [LF, LF, LF, SOH, dst, src, tid, lengthByte payload, STX]

/-- The five bytes after the encoded body. -/
def frameTrailer : List Byte := [ETX, checksum dst src (lengthByte payload) payload, EOT, LF, LF]

theorem frameBytes_eq : frameBytes dst src tid payload =
    frameHeader dst src tid payload ++ (encodeBody payload ++ frameTrailer dst src payload) := by
  simp [frameBytes, coreFrame, frameHeader, frameTrailer]

theorem frameBytes_getElem?_header {k : Nat} (h : k < 9) :
    (frameBytes dst src tid payload)[k]? = (frameHeader dst src tid payload)[k]? := by
  rw [frameBytes_eq, List.getElem?_append_left h]

theorem frameBytes_getElem?_body {k : Nat} (h : k < 2 * payload.length) :
    (frameBytes dst src tid payload)[9 + k]? = (encodeBody payload)[k]? := by
  rw [frameBytes_eq, List.getElem?_append_right (Nat.le_add_right 9 k)]
  simp [frameHeader, List.getElem?_append_left, encodeBody_length, h]

theorem frameBytes_getElem?_trailer (k : Nat) :
    (frameBytes dst src tid payload)[9 + k + 2 * payload.length]? = (frameTrailer dst src payload)[k]? := by
  rw [frameBytes_eq, List.getElem?_append_right (by simp [frameHeader]; omega),
    List.getElem?_append_right (by simp [frameHeader, encodeBody_length]; omega)]
  congr 1
  simp [frameHeader, encodeBody_length]
  omega

theorem frameBytes_getElem?_pair {k : Nat} {p : Byte} (h : payload[k]? = some p) :
    (frameBytes dst src tid payload)[9 + 2 * k]? = some (encHigh p) ∧
    (frameBytes dst src tid payload)[10 + 2 * k]? = some (encLow p) := by
  obtain ⟨hk, -⟩ := List.getElem?_eq_some_iff.mp h
  constructor
  · rw [frameBytes_getElem?_body dst src tid payload (by omega), encodeBody_getElem?_even, h]
    rfl
  · rw [show 10 + 2 * k = 9 + (2 * k + 1) by omega, frameBytes_getElem?_body dst src tid payload (by omega),
      encodeBody_getElem?_odd, h]
    rfl

end Frame

/-- Settles O8: the header and the trailer by position, the body byte pair by byte pair. -/
theorem frameLayout : Obligations.FrameLayout := by
  intro dst src tid payload _ _
  have header {k : Nat} (h : k < 9) := frameBytes_getElem?_header dst src tid payload h
  have trailer := frameBytes_getElem?_trailer dst src tid payload
  refine ⟨frameBytes_length .., ?_, header (by decide), header (by decide), header (by decide), header (by decide),
    header (by decide), header (by decide), fun _ _ => frameBytes_getElem?_pair dst src tid payload,
    trailer 0, trailer 1, trailer 2, trailer 3, trailer 4⟩
  intro k hk
  rw [header (by omega)]
  interval_cases k <;> rfl

/-! ## Encoded bytes -/

/-- A valid byte is the high form of itself, its low nibble being the complement of its high one. -/
theorem encHigh_of_valid {b : Byte} (h : validByte b = true) : encHigh b = b := by
  rw [validByte_eq, beq_iff_eq] at h
  rw [encHigh, ← h, joinNibbles_split]

/-- A valid byte is the low form of itself as well. -/
theorem encLow_of_valid {b : Byte} (h : validByte b = true) : encLow b = b := by
  rw [validByte_eq, beq_iff_eq] at h
  rw [encLow, h, BitVec.not_not, ← h, joinNibbles_split]

theorem validByte_iff_encHigh (b : Byte) : validByte b = true ↔ ∃ p, encHigh p = b :=
  ⟨fun h => ⟨b, encHigh_of_valid h⟩, fun ⟨p, h⟩ => h ▸ encHigh_valid p⟩

theorem validByte_iff_encLow (b : Byte) : validByte b = true ↔ ∃ p, encLow p = b :=
  ⟨fun h => ⟨b, encLow_of_valid h⟩, fun ⟨p, h⟩ => h ▸ encLow_valid p⟩

/-- Settles O6: the list and the class sizes by evaluating all 256 bytes, the two forms by the nibbles. -/
theorem validEncodedBytes : Obligations.ValidEncodedBytes := by
  refine ⟨by decide, validByte_iff_encHigh, validByte_iff_encLow, rfl, rfl, rfl, rfl, rfl, rfl, fun c => ?_⟩
  cases c <;> decide +kernel

/-- Rule R133 takes the high nibble of the first byte and the low nibble of the second. -/
theorem decodePair_join (h c c' l : Nibble) : decodePair (joinNibbles h c) (joinNibbles c' l) = joinNibbles h l := by
  have hhigh : 0xF0#8 = BitVec.allOnes 4 ++ 0#4 := rfl
  have hlow : 0x0F#8 = 0#4 ++ BitVec.allOnes 4 := rfl
  simp only [decodePair, joinNibbles]
  rw [hhigh, hlow, BitVec.and_append, BitVec.and_append, BitVec.or_append, BitVec.and_allOnes, BitVec.and_allOnes,
    BitVec.and_zero, BitVec.and_zero, BitVec.or_zero, BitVec.zero_or]

/-- Settles O7: both forms are valid, and each keeps its own nibble of the payload byte. -/
theorem encodedPairDecodes : Obligations.EncodedPairDecodes := by
  intro p
  refine ⟨encHigh_valid p, encLow_valid p, ?_⟩
  rw [encHigh, encLow, decodePair_join, joinNibbles_split]

/-- Settles O1: each word by evaluating the decoder. -/
theorem writtenOutWordsDecode : Obligations.WrittenOutWordsDecode := by
  unfold Obligations.WrittenOutWordsDecode
  decide

end Sys2Proof

namespace Sys2Proof.Machine

/-! ## The unassigned operation codes -/

theorem decodeCommand_unassigned {c : Command} (h : 10 ≤ c.code.toNat) :
    (∃ x, decodeCommand c = .unassignedAB x) ∨ ∃ x, decodeCommand c = .unassignedCF x := by
  unfold decodeCommand
  split
  case h_11 | h_12 => exact .inl ⟨_, rfl⟩
  case h_13 | h_14 | h_15 | h_16 => exact .inr ⟨_, rfl⟩
  all_goals omega

theorem exec_unassignedAB {s : State} (h : s.phase = .idle) (x : BitVec 1) :
    exec (.unassignedAB x) s = .next { s with result := .status .eBadOp } := portOp_ready h

theorem exec_unassignedCF {s : State} (h : s.phase = .idle) (x : BitVec 2) :
    exec (.unassignedCF x) s = .next { s with result := .status .eBadOp } := portOp_ready h

/-- Settles O22: both rows stand behind the guard that asks for no engine, and the six codes decode to them. -/
theorem unassignedCodesAreBadOps : Obligations.UnassignedCodesAreBadOps := by
  intro s hidle
  refine ⟨exec_unassignedAB hidle, exec_unassignedCF hidle, fun c hc => ?_⟩
  rcases decodeCommand_unassigned hc with ⟨x, hrow⟩ | ⟨x, hrow⟩ <;> rw [hrow]
  · exact exec_unassignedAB hidle x
  · exact exec_unassignedCF hidle x

end Sys2Proof.Machine
end

section
/-! PROOFS. The statement of 40_address_rules.md: what the rows of the pure functions and of the encoder shapes answer. -/

namespace Sys2Proof

/-! ## The codec in the form of its rules -/

/-- The mask form of rule R130, on each of the 256 bytes. -/
theorem encHigh_eq_masks (p : Byte) : encHigh p = (p &&& 0xF0#8) ||| ((~~~p >>> 4) &&& 0x0F#8) := by revert p; decide

/-- The mask form of rule R131, on each of the 256 bytes. -/
theorem encLow_eq_masks (p : Byte) : encLow p = (~~~p <<< 4) &&& 0xF0#8 ||| (p &&& 0x0F#8) := by revert p; decide

theorem frameBytes_eq_header_body_trailer (dst src tid : Byte) (payload : List Byte) :
    frameBytes dst src tid payload =
      frameHeader dst src tid payload ++ encodeBody payload ++ frameTrailer dst src payload := by
  rw [frameBytes_eq, List.append_assoc]

end Sys2Proof

namespace Sys2Proof.Machine

/-! ## The rows whose formula is not the codec's own text -/

theorem exec_symEncHigh (p : Byte) (s : State) :
    exec (.symEncHigh p) s = .next { s with result := .byte (encHigh p) } := rfl

theorem exec_symEncLow (p : Byte) (s : State) :
    exec (.symEncLow p) s = .next { s with result := .byte (encLow p) } := rfl

theorem exec_encodeFrame (dst src tid : Byte) (payload : List Byte) (s : State) :
    exec (.encodeFrame dst src tid payload) s = .next { s with result := .bytes (frameBytes dst src tid payload) } := rfl

/-- Settles O11: the address predicates, `valid` and `dec_pair` are defined by their rules' formulas; the encoder shapes
answer the mask forms, and a frame its header, body and trailer. -/
theorem pureFunctionRowsAnswer : Obligations.PureFunctionRowsAnswer := by
  intro s
  refine ⟨fun _ => rfl, fun _ => rfl, fun p => ?_, fun p => ?_, fun _ => rfl, fun _ _ => rfl,
    fun dst src tid payload => ?_⟩
  · rw [exec_symEncHigh, encHigh_eq_masks]
  · rw [exec_symEncLow, encLow_eq_masks]
  · rw [exec_encodeFrame, frameBytes_eq_header_body_trailer]
    rfl

end Sys2Proof.Machine
end

section
/-! PROOFS. The statement of 41_frame_codec.md: a frame that the encoder made is received as the message that was encoded.
First the encoded body: on a reception the two wire bytes of a payload byte are one operation, and the payload is a fold of
it. Then the row that each byte of a frame runs. Last, what a list of bytes makes of a drain, composed like Hoare triples. -/

namespace Sys2Proof.Machine

/-! ## The payload on the reception -/

/-- The reception after both wire bytes of the payload byte `p` (rules R170, R171). -/
def takePair (r : Reception) (p : Byte) : Reception := takeLow (takeHigh r (encHigh p)) (encLow p)

/-- The byte completed by an encoded pair is the byte that was encoded (rule R98). -/
theorem completedByte_encoded (r : Reception) (p : Byte) : completedByte (takeHigh r (encHigh p)) (encLow p) = p :=
  (encodedPairDecodes p).2.2

/-- Below the declared length the pair stores, counts and folds its payload byte, without saturation. -/
theorem takePair_eq {r : Reception} (p : Byte) (h : r.count < r.len.toNat) :
    takePair r p = { r with
      half := encHigh p &&& 0xF0#8, first := true, crc := checksumFold r.crc p
      count := r.count + 1, payload := r.payload ++ [p] } := by
  have hcount : min (r.count + 1) 256 = r.count + 1 := by omega
  simp only [takePair, takeLow, completedByte_encoded]
  simp [takeHigh, h, hcount]

/-- `r` receives the message `m` as far as `m`'s payload has come: every decoded byte is stored, and the accumulator is the
checksum of what is stored (rule R28 c). -/
structure Carries (m : Message) (r : Reception) : Prop where
  message : messageOf r = m
  count : r.count = m.payload.length
  crc : r.crc = checksum m.dst m.src m.len m.payload

/-- The reception after the header, whose accumulator has been started (rule R151). -/
def withHeader (r : Reception) (dst src tid len : Byte) : Reception :=
  { r with dst, src, tid, len, crc := checksumInit dst src len }

theorem carries_header (start n : Nat) (dst src tid len : Byte) :
    Carries { src, dst, tid, len, payload := [] } (withHeader (newReception start n) dst src tid len) := ⟨rfl, rfl, rfl⟩

theorem Carries.withByte {m : Message} {r : Reception} (h : Carries m r) (p : Byte) (hroom : m.payload.length < m.len.toNat) :
    Carries { m with payload := m.payload ++ [p] } (takePair r p) := by
  obtain ⟨rfl, hcount, hcrc⟩ := h
  rw [takePair_eq p (hcount ▸ hroom)]
  exact ⟨rfl, by simp [hcount, messageOf], by simp only [checksum_append, hcrc]⟩

theorem Carries.withPayload {m : Message} {r : Reception} (h : Carries m r) (l : List Byte)
    (hroom : m.payload.length + l.length ≤ m.len.toNat) :
    Carries { m with payload := m.payload ++ l } (l.foldl takePair r) := by
  induction l generalizing m r with
  | nil => simpa using h
  | cons p l ih =>
    rw [List.length_cons] at hroom
    have hrest := ih (h.withByte p (by omega)) (by simp; omega)
    simpa using hrest

/-! ## The row that each byte of a frame runs -/

theorem fifoFull_eq_false {depth : Option Nat} {n : Nat} (h : ∀ d, depth = some d → n < d) : fifoFull depth n = false := by
  cases depth with
  | none => rfl
  | some d => simpa [fifoFull] using h d rfl

section Rows

variable {s : State} {r : Reception}

theorem rxByte_LF (h : s.rxState = .idle) : rxByte LF s = .next (stamp s) := by
  simp only [rxByte, h]
  exact atIdle_here h rfl

theorem rxByte_SOH (h : s.rxState = .idle) : rxByte SOH s = .next (goto .sohReceived (createReception (stamp s))) := by
  simp only [rxByte, h]
  exact atIdle_here h rfl

theorem rxByte_destination (h : s.rxState = .sohReceived) (hr : s.rx = some r) {b : Byte}
    (hb : destinationAccepted s b = true) :
    rxByte b s = .next (goto .destAddressReceived (setRx { r with dst := b } (stamp s))) := by
  simp only [rxByte, h, hb]
  exact atRow_here h hr hb

theorem rxByte_source (h : s.rxState = .destAddressReceived) (hr : s.rx = some r) (b : Byte) :
    rxByte b s = .next (goto .srcAddressReceived (setRx { r with src := b } (stamp s))) := by
  simp only [rxByte, h]
  exact atRow_here h hr rfl

theorem rxByte_transactionId (h : s.rxState = .srcAddressReceived) (hr : s.rx = some r) (b : Byte) :
    rxByte b s = .next (goto .transactionIdReceived (setRx { r with tid := b } (stamp s))) := by
  simp only [rxByte, h]
  exact atRow_here h hr rfl

theorem rxByte_length (h : s.rxState = .transactionIdReceived) (hr : s.rx = some r) {b : Byte} (hb : b ≠ 0#8) :
    rxByte b s = .next
      (goto .messageLenReceived (setRx { r with len := b, crc := checksumInit r.dst r.src b } (stamp s))) := by
  simp only [rxByte, h, if_neg hb]
  exact atRow_here h hr (by simpa using hb)

theorem rxByte_STX (h : s.rxState = .messageLenReceived) (hr : s.rx = some r) :
    rxByte STX s = .next (goto .stxReceived (stamp s)) := by
  simp only [rxByte, h]
  exact atRow_here h hr rfl

theorem rxByte_encHigh (h : s.rxState = .stxReceived) (hr : s.rx = some r) (hfirst : r.first = true) (p : Byte) :
    rxByte (encHigh p) s = .next (setRx (takeHigh r (encHigh p)) (stamp s)) := by
  simp only [rxByte, h, encHigh_valid, wireContext_first hr, hfirst]
  exact (atRow_here h hr (by simp [encHigh, hfirst])).trans (by rw [joinNibbles_split])

theorem rxByte_encLow (h : s.rxState = .stxReceived) (hr : s.rx = some r) (hfirst : r.first = false) (p : Byte) :
    rxByte (encLow p) s = .next (setRx (takeLow r (encLow p)) (stamp s)) := by
  simp only [rxByte, h, encLow_valid, wireContext_first hr, hfirst]
  exact (atRow_here h hr (by simp [encLow, hfirst])).trans (by rw [joinNibbles_split])

theorem rxByte_ETX (h : s.rxState = .stxReceived) (hr : s.rx = some r) (hlen : lengthMatches r = true) :
    rxByte ETX s = .next (goto .etxReceived (stamp s)) := by
  simp only [rxByte, h, ETX_not_valid]
  exact (atRow_here h hr rfl).trans (if_pos hlen)

theorem rxByte_checksum (h : s.rxState = .etxReceived) (hr : s.rx = some r) :
    rxByte r.crc s = .next (goto .crcOk (stamp s)) := by
  simp only [rxByte, h, wireContext_crc hr]
  exact atRow_here h hr (by simp [checksumMatches])

theorem rxByte_EOT (h : s.rxState = .crcOk) (hr : s.rx = some r)
    (hroom : fifoFull s.params.rxqDepth s.rxFifo.length = false) :
    rxByte EOT s = .next (goto .idle { pushRx (messageOf r) (stamp s) with rx := none }) := by
  simp only [rxByte, h]
  refine (atRow_here h hr rfl).trans ?_
  simp [deliver, hroom]

end Rows

/-! ## What a list of bytes makes of a drain -/

/-- A drain that began in `s₀` stands at the receiver state `st` with the reception `rx` and the inbound messages `fifo`;
the items `left` are still to come. -/
structure DrainAt (s₀ : State) (fifo : List Message) (st : RxState) (rx : Option Reception) (left : List RxItem)
    (s : State) : Prop where
  phase : s.phase = .drain
  chanRx : s.chanRx = left
  rxFifo : s.rxFifo = fifo
  rxState : s.rxState = st
  rx : s.rx = rx
  txFifo : s.txFifo = s₀.txFifo
  ownAddr : s.ownAddr = s₀.ownAddr
  de : s.de = s₀.de
  params : s.params = s₀.params

/-- From every state that meets `P` with the bytes `bs` first in its receive list, one step for each of them leads to a
state that meets `Q` with the rest of the list. -/
def Leads (bs : List Byte) (P Q : List RxItem → State → Prop) : Prop :=
  ∀ rest s, P (bs.map .byte ++ rest) s → ∃ t, Sys2Proof.core.run bs.length s = .next t ∧ Q rest t

theorem run_add {m n : Nat} {s t : State} (h : Sys2Proof.core.run m s = .next t) :
    Sys2Proof.core.run (m + n) s = Sys2Proof.core.run n t := by
  induction m generalizing s with
  | zero =>
    obtain rfl : s = t := by injection h
    rw [Nat.zero_add]
  | succ m ih =>
    rw [Nat.add_right_comm]
    cases hs : step s with
    | next s' =>
      rw [run_succ hs] at h ⊢
      exact ih h
    | fault e => simp [Host.Core.run, Sys2Proof.core, hs] at h
    | refused e => simp [Host.Core.run, Sys2Proof.core, hs] at h

section Composition

variable {P Q R : List RxItem → State → Prop} {bs cs : List Byte}

theorem Leads.nil : Leads [] P P := fun _ s h => ⟨s, rfl, h⟩

theorem Leads.append (h : Leads bs P Q) (h' : Leads cs Q R) : Leads (bs ++ cs) P R := by
  intro rest s hs
  rw [List.map_append, List.append_assoc] at hs
  obtain ⟨t, hrun, ht⟩ := h _ s hs
  obtain ⟨u, hrun', hu⟩ := h' _ t ht
  exact ⟨u, by rw [List.length_append, run_add hrun, hrun'], hu⟩

theorem Leads.cons {b : Byte} (h : Leads [b] P Q) (h' : Leads bs Q R) : Leads (b :: bs) P R := h.append h'

theorem Leads.of_forall {α : Type} {P : α → List RxItem → State → Prop} (h : ∀ a, Leads bs (P a) Q) :
    Leads bs (fun left s => ∃ a, P a left s) Q := fun rest s ⟨a, hs⟩ => h a rest s hs

end Composition

section Bytes

variable {s₀ : State} {fifo : List Message} {r : Reception}

/-- One byte leads where its row does: the byte step keeps everything else of `DrainAt` (`wire_effect`). -/
theorem DrainAt.byte {st st' : RxState} {rx rx' : Option Reception} {fifo' : List Message} {left : List RxItem} {b : Byte}
    {s t : State} (h : DrainAt s₀ fifo st rx (.byte b :: left) s) (ht : rxByte b { s with chanRx := left } = .next t)
    (hfifo : t.rxFifo = fifo') (hst : t.rxState = st') (hrx : t.rx = rx') :
    step s = .next t ∧ DrainAt s₀ fifo' st' rx' left t := by
  rw [rxByte_eq_exec_decodeWire] at ht
  obtain ⟨hframe, -⟩ := wire_effect ht
  exact ⟨(step_byte h.phase h.chanRx).trans ht, {
    phase := (congrArg State.phase hframe).trans h.phase
    chanRx := (congrArg State.chanRx hframe :)
    rxFifo := hfifo
    rxState := hst
    rx := hrx
    txFifo := (congrArg State.txFifo hframe).trans h.txFifo
    ownAddr := (congrArg State.ownAddr hframe).trans h.ownAddr
    de := (congrArg State.de hframe).trans h.de
    params := (congrArg State.params hframe).trans h.params }⟩

theorem leads_byte {st st' : RxState} {rx rx' : Option Reception} {fifo' : List Message} {b : Byte}
    (hrow : ∀ left s, DrainAt s₀ fifo st rx left s →
      ∃ t, rxByte b s = .next t ∧ t.rxFifo = fifo' ∧ t.rxState = st' ∧ t.rx = rx') :
    Leads [b] (DrainAt s₀ fifo st rx) (DrainAt s₀ fifo' st' rx') := by
  intro rest s hs
  obtain ⟨t, ht, hfifo, hst, hrx⟩ := hrow rest { s with chanRx := rest } { hs with chanRx := rfl }
  obtain ⟨hstep, hend⟩ := hs.byte ht hfifo hst hrx
  exact ⟨t, run_succ hstep, hend⟩

theorem leads_LF (rx : Option Reception) : Leads [LF] (DrainAt s₀ fifo .idle rx) (DrainAt s₀ fifo .idle rx) :=
  leads_byte fun _ _ h => ⟨_, rxByte_LF h.rxState, h.rxFifo, h.rxState, h.rx⟩

/-- When a reception starts and which free values its unwritten fields hold depends on the state. -/
theorem leads_SOH (rx : Option Reception) : Leads [SOH] (DrainAt s₀ fifo .idle rx)
    (fun left s => ∃ start n, DrainAt s₀ fifo .sohReceived (some (newReception start n)) left s) := by
  intro rest s hs
  obtain ⟨hstep, hend⟩ := DrainAt.byte hs (rxByte_SOH hs.rxState) hs.rxFifo rfl rfl
  exact ⟨_, run_succ hstep, _, _, hend⟩

/-- The header fields and STX, on the reception that the SOH began. -/
theorem leads_header {dst len : Byte} (hdst : dst = s₀.ownAddr ∨ dst = BROADCAST) (hlen : len ≠ 0#8) (src tid : Byte) :
    Leads [dst, src, tid, len, STX] (DrainAt s₀ fifo .sohReceived (some r))
      (DrainAt s₀ fifo .stxReceived (some (withHeader r dst src tid len))) :=
  .cons (leads_byte fun _ s h => ⟨_, rxByte_destination h.rxState h.rx
    ((destinationAccepted_iff s dst).mpr (h.ownAddr ▸ hdst)), h.rxFifo, rfl, rfl⟩) <|
  .cons (leads_byte fun _ _ h => ⟨_, rxByte_source h.rxState h.rx src, h.rxFifo, rfl, rfl⟩) <|
  .cons (leads_byte fun _ _ h => ⟨_, rxByte_transactionId h.rxState h.rx tid, h.rxFifo, rfl, rfl⟩) <|
  .cons (leads_byte fun _ _ h => ⟨_, rxByte_length h.rxState h.rx hlen, h.rxFifo, rfl, rfl⟩) <|
  leads_byte fun _ _ h => ⟨_, rxByte_STX h.rxState h.rx, h.rxFifo, rfl, h.rx⟩

/-- The encoded body folds the payload into the reception. -/
theorem leads_encodeBody (l : List Byte) (hfirst : r.first = true) :
    Leads (encodeBody l) (DrainAt s₀ fifo .stxReceived (some r))
      (DrainAt s₀ fifo .stxReceived (some (l.foldl takePair r))) := by
  induction l generalizing r with
  | nil => exact .nil
  | cons p l ih =>
    exact .cons (leads_byte fun _ _ h => ⟨_, rxByte_encHigh h.rxState h.rx hfirst p, h.rxFifo, h.rxState, rfl⟩) <|
      .cons (leads_byte fun _ _ h => ⟨_, rxByte_encLow h.rxState h.rx rfl p, h.rxFifo, h.rxState, rfl⟩) (ih rfl)

/-- ETX at the declared length, the checksum and EOT deliver the message. -/
theorem leads_trailer {m : Message} (h : Carries m r) (hlen : m.payload.length = m.len.toNat)
    (hroom : fifoFull s₀.params.rxqDepth fifo.length = false) :
    Leads [ETX, checksum m.dst m.src m.len m.payload, EOT] (DrainAt s₀ fifo .stxReceived (some r))
      (DrainAt s₀ (fifo ++ [m]) .idle none) := by
  obtain ⟨rfl, hcount, hcrc⟩ := h
  have hmatch : lengthMatches r = true := beq_of_eq (hcount.trans hlen)
  rw [← hcrc]
  exact .cons (leads_byte fun _ _ h => ⟨_, rxByte_ETX h.rxState h.rx hmatch, h.rxFifo, rfl, h.rx⟩) <|
    .cons (leads_byte fun _ _ h => ⟨_, rxByte_checksum h.rxState h.rx, h.rxFifo, rfl, h.rx⟩) <|
    leads_byte fun _ _ h => ⟨_, rxByte_EOT h.rxState h.rx (by rw [h.params, h.rxFifo, hroom]),
      congrArg (· ++ _) h.rxFifo, rfl, rfl⟩

section Frame

variable {dst : Byte} {payload : List Byte} (hpos : 1 ≤ payload.length) (hmax : payload.length ≤ 255)
  (hdst : dst = s₀.ownAddr ∨ dst = BROADCAST) (hroom : fifoFull s₀.params.rxqDepth fifo.length = false) (src tid : Byte)

include hpos hmax hdst hroom

/-- From SOH to EOT: the header begins a message without payload, the body completes it, the trailer delivers it. -/
theorem leads_coreFrame (rx : Option Reception) :
    Leads (coreFrame dst src tid payload) (DrainAt s₀ fifo .idle rx)
      (DrainAt s₀ (fifo ++ [{ src, dst, tid, len := lengthByte payload, payload }]) .idle none) := by
  have hlen := lengthByte_toNat payload hmax
  refine (leads_SOH rx).cons (.of_forall fun start => .of_forall fun n => ?_)
  have hbody := (carries_header start n dst src tid (lengthByte payload)).withPayload payload (by simp [hlen])
  exact ((leads_header hdst (lengthByte_ne_zero payload hpos hmax) src tid).append (leads_encodeBody payload rfl)).append
    (leads_trailer hbody hlen.symm hroom)

/-- The fillers around it change nothing in IDLE. -/
theorem leads_frameBytes (rx : Option Reception) :
    Leads (frameBytes dst src tid payload) (DrainAt s₀ fifo .idle rx)
      (DrainAt s₀ (fifo ++ [{ src, dst, tid, len := lengthByte payload, payload }]) .idle none) := by
  have hbefore : Leads [LF, LF, LF] (DrainAt s₀ fifo .idle rx) (DrainAt s₀ fifo .idle rx) :=
    (leads_LF rx).cons ((leads_LF rx).cons (leads_LF rx))
  exact (hbefore.append (leads_coreFrame hpos hmax hdst hroom src tid rx)).append ((leads_LF none).cons (leads_LF none))

end Frame

end Bytes

/-- Settles O55: the drain begins in IDLE, and `leads_frameBytes` says where the frame's bytes lead. -/
theorem encodedFrameIsReceived : Obligations.EncodedFrameIsReceived := by
  intro s dst src tid payload rest hpos hmax hphase hidle hdst hdepth hchan
  have hstart : DrainAt s s.rxFifo .idle s.rx ((frameBytes dst src tid payload).map .byte ++ rest) s :=
    ⟨hphase, hchan, rfl, hidle, rfl, rfl, rfl, rfl, rfl⟩
  obtain ⟨t, hrun, hend⟩ := leads_frameBytes hpos hmax hdst (fifoFull_eq_false hdepth) src tid s.rx rest s hstart
  rw [frameBytes_length] at hrun
  exact ⟨t, hrun, hend.rxFifo, hend.rxState, hend.rx, hend.phase, hend.chanRx, hend.txFifo, hend.ownAddr, hend.de⟩

end Sys2Proof.Machine
end

section
/-! PROOFS. The statements of 42_checksum.md: what the fold of bytes keeps, bit position by bit position, and the rows of the
accumulator. -/

namespace Sys2Proof

/-! ## The fold -/

/-- Settles O9: two neighbouring bytes can be folded in either order, and every permutation is made of such exchanges. -/
theorem checksumIgnoresPayloadOrder : Obligations.ChecksumIgnoresPayloadOrder := by
  intro dst src len p q hperm
  have hexchange (c a b : Byte) : checksumFold (checksumFold c a) b = checksumFold (checksumFold c b) a := by
    unfold checksumFold
    ac_rfl
  exact hperm.foldl_eq' (fun a _ b _ c => hexchange c a b) _

/-- The two bytes of a pair differ in bit position `k`. -/
def differAt (k : Nat) (x : Byte × Byte) : Bool := x.1.getLsbD k != x.2.getLsbD k

/-- Folding a byte into each of two accumulators keeps the parity of the differences in a bit position: the bytes folded in
are no longer counted on their own. -/
theorem even_differences_fold (k : Nat) (c c' d d' : Byte) (l : List (Byte × Byte)) :
    Even (((checksumFold c d, checksumFold c' d') :: l).countP (differAt k)) ↔
      Even (((c, c') :: (d, d') :: l).countP (differAt k)) := by
  have hfold : differAt k (checksumFold c d, checksumFold c' d') = (differAt k (c, c') ^^ differAt k (d, d')) := by
    simp only [differAt, checksumFold, BitVec.getLsbD_xor, Bool.bne_eq_xor, Bool.xor_assoc, Bool.xor_left_comm]
  rw [List.countP_cons, hfold, List.countP_cons, List.countP_cons]
  cases differAt k (c, c') <;> cases differAt k (d, d') <;> simp [parity_simps]

/-- Two folds agree in a bit position exactly when the start values and the folded bytes together differ there an even number
of times. -/
theorem getLsbD_fold_eq_iff (k : Nat) (c c' : Byte) {p p' : List Byte} (hlength : p.length = p'.length) :
    (p.foldl checksumFold c).getLsbD k = (p'.foldl checksumFold c').getLsbD k ↔
      Even (((c :: p).zip (c' :: p')).countP (differAt k)) := by
  induction p generalizing c c' p' with
  | nil =>
    obtain rfl : p' = [] := List.eq_nil_of_length_eq_zero hlength.symm
    by_cases hbit : c.getLsbD k = c'.getLsbD k <;> simp [differAt, hbit]
  | cons d p ih =>
    obtain ⟨d', p', rfl⟩ := List.exists_cons_of_length_eq_add_one hlength.symm
    rw [List.foldl_cons, List.foldl_cons, ih _ _ (Nat.succ.inj hlength)]
    exact even_differences_fold k c c' d d' (p.zip p')

/-- Settles O10: the checksum folds the source, the length and the payload into the destination, and two bytes are equal when
they agree in each bit position. -/
theorem checksumDetectsOddDifferences : Obligations.ChecksumDetectsOddDifferences := by
  intro d s l d' s' l' p p' hlength
  have hbit (k : Nat) : (checksum d s l p).getLsbD k = (checksum d' s' l' p').getLsbD k ↔
      Even (((d :: s :: l :: p).zip (d' :: s' :: l' :: p')).countP (differAt k)) :=
    getLsbD_fold_eq_iff k d d' (p := s :: l :: p) (p' := s' :: l' :: p') (by simp [hlength])
  constructor
  · intro h k _
    exact (hbit k).mp (h ▸ rfl)
  · intro h
    exact BitVec.eq_of_getLsbD_eq fun k hk => (hbit k).mpr (h k hk)

end Sys2Proof

namespace Sys2Proof.Machine

/-! ## The rows of the accumulator -/

theorem atRow_elsewhere {s : State} {st : RxState} (c : Reception → Bool) (k : Reception → Answer)
    (h : s.rxState ≠ st) : atRow s st c k = .fault .outOfPlace := if_neg h

/-- Settles O12: in its own state a row runs its body on the reception under way (`atRow_here`), elsewhere it is out of place
(`atRow_elsewhere`). -/
theorem accumulatorRows : Obligations.AccumulatorRows := by
  intro s r b hr
  exact ⟨fun h => atRow_here h hr rfl, fun h => atRow_here h hr rfl, fun h => atRow_here h hr rfl,
    atRow_elsewhere _ _, atRow_elsewhere _ _, atRow_elsewhere _ _⟩

end Sys2Proof.Machine
end

section
/-! PROOFS. The statements of 43_receiver.md: the one row of every byte, what each row of the receiver makes of the
reception under way, the packet timeout, and who writes the inbound FIFO. The rows rest on one rule for each way a row can
end. -/

namespace Sys2Proof.Machine

/-! ## One row for every byte -/

/-- Settles O5: the receiver's dispatch and the decoder choose the same row. -/
theorem byteStepRunsTheDecodedRow : Obligations.ByteStepRunsTheDecodedRow := rxByte_eq_exec_decodeWire

/-- Settles O4: the row the byte decodes to is admitted and keeps its byte; any other such row would be what its byte
decodes to as well; and the byte step completes within `wire_effect`'s frame. -/
theorem everyByteHasExactlyOneRow : Obligations.EveryByteHasExactlyOneRow := by
  intro s b hrx
  obtain ⟨hselects, hwf⟩ := admits_decodeWire (wireContext s) b
  obtain ⟨t, ht⟩ := rxByte_completes hrx b
  rw [rxByte_eq_exec_decodeWire] at ht
  refine ⟨decodeWire (wireContext s) b, ⟨hselects, hwf, encode_decodeWire _ b⟩, ?unique, t, ht,
    (congrArg State.result (wire_effect ht).1 :)⟩
  rintro j ⟨hj, hjwf, hjbyte⟩
  have hdecode := Laws.SelectedWordDecodes.selectedWordDecodesToItsRow j _ hj hjwf
  rw [hjbyte] at hdecode
  exact (Decoded.instr.inj hdecode).symm

/-! ## How a row ends -/

/-- The one clock reading of a unit of work that takes no time of its own is never in the past (rule R292). -/
theorem clock_le_reading (s : State) : s.clock ≤ s.clock + s.nextAdvance := Nat.le_add_right _ _

section Rows

variable {s : State} {r : Reception} {st : RxState} {c : Reception → Bool}

theorem goto_stamp (st : RxState) (hr : s.rx = some r) :
    goto st (stamp s) = s.advanced (s.clock + s.nextAdvance) st r := by
  rw [← goto_setRx_stamp]
  simp [goto, setRx, hr]

variable (h : s.rxState = st) (hr : s.rx = some r) (hc : c r = true)

include h hr hc

/-- A row that writes the reception and moves on. -/
theorem atRow_advances {st' : RxState} {f : Reception → Reception} :
    ∃ n, s.clock ≤ n ∧ atRow s st c (fun r => .next (goto st' (setRx (f r) (stamp s)))) =
      .next (s.advanced n st' (f r)) :=
  ⟨_, clock_le_reading s, atRow_here h hr hc⟩

/-- A row that moves on and leaves the reception alone. -/
theorem atRow_moves {st' : RxState} :
    ∃ n, s.clock ≤ n ∧ atRow s st c (fun _ => .next (goto st' (stamp s))) = .next (s.advanced n st' r) :=
  ⟨_, clock_le_reading s, (atRow_here h hr hc).trans (congrArg _ (goto_stamp st' hr))⟩

/-- A row that takes the reception to its next contents and stays in its state. -/
theorem atRow_stays {f : Reception → Reception} :
    ∃ n, s.clock ≤ n ∧ atRow s st c (fun r => .next (setRx (f r) (stamp s))) =
      .next { s.byteSeen n with rx := some (f r) } :=
  ⟨_, clock_le_reading s, atRow_here h hr hc⟩

/-- A row that discards. -/
theorem atRow_discards {cause : DiscardCause} :
    ∃ n, s.clock ≤ n ∧ atRow s st c (fun _ => .next (discard cause (stamp s))) = .next (s.dropped n cause) :=
  ⟨_, clock_le_reading s, atRow_here h hr hc⟩

end Rows

/-! ## The rows of the receiver, state by state -/

/-- Settles O24: in IDLE no row is out of place (`atIdle_here`), and SOH creates the reception. -/
theorem idleRows : Obligations.IdleRows := by
  intro s h
  refine ⟨⟨_, clock_le_reading s, atIdle_here h rfl⟩, ?soh, fun b hnul hsoh => ?other⟩
  case soh =>
    exact ⟨_, newReception _ _, _, clock_le_reading s, rfl, rfl, rfl, rfl, atIdle_here h rfl⟩
  case other =>
    have hb : (b != NUL && b != SOH) = true := by simp [NUL, SOH, hnul, hsoh]
    exact ⟨_, clock_le_reading s, atIdle_here h hb⟩

/-- Settles O25: the two rows ask for the destination check's two answers. -/
theorem destinationByteRows : Obligations.DestinationByteRows := by
  intro s r b h hr
  constructor
  · intro hb
    exact atRow_advances h hr ((destinationAccepted_iff s b).mpr hb)
  · intro hown hbroadcast
    have hb : (!destinationAccepted s b) = true := by simp [destinationAccepted, BROADCAST, hown, hbroadcast]
    exact atRow_discards h hr hb

/-- Settles O26: neither row asks for anything. -/
theorem sourceAndTransactionIdRows : Obligations.SourceAndTransactionIdRows := by
  intro s r b hr
  exact ⟨fun h => atRow_advances h hr rfl, fun h => atRow_advances h hr rfl⟩

/-- Settles O27: the length is kept together with the checksum's start value, or the reception is discarded. -/
theorem lengthByteRows : Obligations.LengthByteRows := by
  intro s r h hr
  exact ⟨fun b hb => atRow_advances h hr (by simpa using hb), atRow_discards h hr rfl⟩

/-- Settles O28: STX only moves the receiver on. -/
theorem startOfBodyRows : Obligations.StartOfBodyRows := by
  intro s r h hr
  exact ⟨atRow_moves h hr rfl, fun b hb => atRow_discards h hr (by simpa [STX] using hb)⟩

/-- Settles O29: the two rows are told apart by the first-nibble flag, and take the reception by `takeHigh` and `takeLow`. -/
theorem encodedByteRows : Obligations.EncodedByteRows := by
  intro s r high low h hr
  exact ⟨fun hfirst => atRow_stays h hr (by simpa using hfirst), fun hfirst => atRow_stays h hr (by simpa using hfirst)⟩

/-- The body of ETX's row, by the length check. -/
theorem execStxEtx_eq {s : State} {r : Reception} (h : s.rxState = .stxReceived) (hr : s.rx = some r) :
    execStxEtx s =
      .next (if lengthMatches r then goto .etxReceived (stamp s) else discard .lengthMismatch (stamp s)) := by
  rw [execStxEtx, atRow_here h hr rfl, apply_ite Host.Outcome.next]

/-- Settles O30: ETX by the length check, and the row of every other byte that is no encoded one. -/
theorem endOfBodyRows : Obligations.EndOfBodyRows := by
  intro s r h hr
  refine ⟨fun hlen => ?complete, fun hlen => ?mismatch, fun b hvalid hetx => ?other⟩
  case complete =>
    have hmatch : lengthMatches r = true := by simpa [lengthMatches] using hlen
    refine ⟨_, clock_le_reading s, (execStxEtx_eq h hr).trans ?_⟩
    rw [if_pos hmatch, goto_stamp _ hr]
  case mismatch =>
    have hmatch : ¬lengthMatches r = true := by simpa [lengthMatches] using hlen
    refine ⟨_, clock_le_reading s, (execStxEtx_eq h hr).trans ?_⟩
    rw [if_neg hmatch, discard_stamp]
  case other => exact atRow_discards h hr (by simp [ETX, hvalid, hetx])

/-- Settles O31: the two rows ask for the checksum comparison's two answers. -/
theorem checksumByteRows : Obligations.ChecksumByteRows := by
  intro s r b h hr
  exact ⟨fun hb => atRow_moves h hr (by simpa [checksumMatches] using hb),
    fun hb => atRow_discards h hr (by simpa [checksumMatches] using hb)⟩

theorem fifoFull_eq_true {depth : Option Nat} {d n : Nat} (h : depth = some d) (hfull : d ≤ n) :
    fifoFull depth n = true := by simpa [fifoFull, h] using hfull

theorem deliver_room {s : State} (r : Reception) (h : fifoFull s.params.rxqDepth s.rxFifo.length = false) :
    deliver r s = goto .idle { pushRx (messageOf r) s with rx := none } := if_neg (by simp [h])

theorem deliver_full {s : State} (r : Reception) (h : fifoFull s.params.rxqDepth s.rxFifo.length = true) :
    deliver r s = discard .rxOverflow s := if_pos h

theorem exec_crcOkEot {s : State} {r : Reception} (h : s.rxState = .crcOk) (hr : s.rx = some r) :
    exec .crcOkEot s = .next (deliver r (stamp s)) := atRow_here h hr rfl

/-- Settles O32: EOT delivers when there is room and otherwise discards, and every other byte discards. -/
theorem endOfFrameRows : Obligations.EndOfFrameRows := by
  intro s r h hr
  refine ⟨fun hroom => ?delivered, fun d hdepth hfull => ?overflow, fun b hb => ?other⟩
  case delivered =>
    refine ⟨_, clock_le_reading s, (exec_crcOkEot h hr).trans ?_⟩
    rw [deliver_room (s := stamp s) r (fifoFull_eq_false hroom), ← h]
    rfl
  case overflow =>
    refine ⟨_, clock_le_reading s, (exec_crcOkEot h hr).trans ?_⟩
    rw [deliver_full (s := stamp s) r (fifoFull_eq_true hdepth hfull), discard_stamp]
  case other => exact atRow_discards h hr (by simpa [EOT] using hb)

/-! ## The packet timeout -/

section Timeout

variable {s : State} {x : Reception} (body : State → Answer)

theorem rxTimeoutCheck_idle (h : s.rxState = .idle) : rxTimeoutCheck s body = body s := if_pos h

/-- Outside IDLE the check goes on with the clock read, and discards a reception that is too old. -/
theorem rxTimeoutCheck_receiving (h : s.rxState ≠ .idle) (hx : s.rx = some x) :
    rxTimeoutCheck s body =
      if timedOut (readClock s) x then body (discard .timeout (readClock s)) else body (readClock s) := by
  simp [rxTimeoutCheck, h, hx]

theorem exec_rxTimeout {r : TxResult} (h : s.phase = .timeout r) :
    exec .rxTimeout s = rxTimeoutCheck s fun s' => .next (respond (.tick r) (toPhase .idle s')) := by
  simp [exec, execRxTimeout, h]

end Timeout

/-- Settles O34: the check's cases, each followed by TICK's answer. -/
theorem packetTimeoutRow : Obligations.PacketTimeoutRow := by
  refine ⟨rfl, fun s r hphase => ?_⟩
  rw [exec_rxTimeout hphase]
  refine ⟨rxTimeoutCheck_idle _, fun x h hx => ⟨_, clock_le_reading s, ?_⟩⟩
  rw [rxTimeoutCheck_receiving _ h hx]
  exact ⟨fun hold => if_pos (decide_eq_true hold), fun hyoung => if_neg (mt of_decide_eq_true (Nat.not_lt.mpr hyoung))⟩

/-! ## Who writes the inbound FIFO -/

/-- A host operation leaves the inbound FIFO alone, takes its head by a READ, or empties it by a CONSTRUCT. -/
theorem host_writes_rxFifo {s t : State} {c : Command} (he : exec (decodeCommand c) s = .next t) :
    t.rxFifo = s.rxFifo ∨ (c.code = 5#4 ∧ ∃ m, s.rxFifo = m :: t.rxFifo) ∨ (c.code = 0#4 ∧ t.rxFifo = []) := by
  rcases host_effect he with
    ⟨hcode, ht | ⟨-, -, -, -, hempty, -⟩⟩ | ht | ⟨-, ht, -⟩ | ⟨hcode, m, hhead, -⟩ | ⟨-, -, ⟨-, ht⟩ | ⟨-, -, ht⟩⟩
  case inl.inr => exact .inr (.inr ⟨hcode, hempty⟩)
  case inr.inr.inr.inl => exact .inr (.inl ⟨hcode, m, hhead⟩)
  all_goals exact .inl (congrArg State.rxFifo ht :)

/-- Settles O49: of the four kinds of step, only a received byte appends, and only a host operation removes. -/
theorem singleSuccessPath : Obligations.SingleSuccessPath := by
  intro s t h
  rcases step_next_cases h with ⟨-, -, rfl⟩ | ⟨c, rest, hp, hc, he⟩ | ⟨b, rest, hp, hb, he⟩ | ⟨i, rest, -, hi, -, he⟩
  · exact .inl rfl
  · rcases host_writes_rxFifo he with hkeep | ⟨hcode, m, hhead⟩ | ⟨hcode, hempty⟩
    · exact .inl hkeep
    · exact .inr (.inr (.inl ⟨c, rest, m, hp, hc, hcode, hhead⟩))
    · exact .inr (.inr (.inr ⟨c, rest, hp, hc, hcode, hempty⟩))
  · obtain ⟨-, -, hfifo, -⟩ := wire_effect (s := { s with chanRx := rest }) he
    rcases hfifo with hkeep | ⟨r, hst, hr, rfl, happend⟩
    · exact .inl hkeep
    · exact .inr (.inl ⟨r, rest, hp, hst, hr, hb, happend⟩)
  · obtain ⟨-, hkeep, -⟩ := phase_effect hi he
    exact .inl hkeep

/-! ## The idle fill -/

theorem rxByte_NUL {s : State} (h : s.rxState = .idle) : rxByte NUL s = .next (readClock s) := by
  simp only [rxByte, h, ↓reduceIte]
  exact atIdle_here h rfl

/-- A NUL met in IDLE inside a drain costs one clock reading. -/
theorem step_idleNul {s : State} {rest : List RxItem} (hphase : s.phase = .drain) (hidle : s.rxState = .idle)
    (hchan : s.chanRx = .byte NUL :: rest) : step s = .next (readClock { s with chanRx := rest }) := by
  have hrow := rxByte_eq_exec_decodeWire { s with chanRx := rest } NUL
  exact (step_byte hphase hchan).trans (hrow.symm.trans (rxByte_NUL hidle))

/-- Settles O58: by induction on the run's length; each NUL leaves the drain in IDLE, where the next one is met. -/
theorem idleFillIsInert : Obligations.IdleFillIsInert := by
  intro n s rest hphase hidle hchan
  induction n generalizing s with
  | zero => exact ⟨s, rfl, hchan, rfl⟩
  | succ n ih =>
    have hstep := step_idleNul hphase hidle hchan
    obtain ⟨t, hrun, hrest, hframe⟩ := ih (readClock { s with chanRx := List.replicate n (.byte NUL) ++ rest })
      hphase hidle rfl
    exact ⟨t, (run_succ hstep).trans hrun, hrest, hframe⟩

end Sys2Proof.Machine
end

section
/-! PROOFS. The statements of 44_transmit.md: what each row of the transmit scheduler makes of the state, and what a whole
send attempt shows outside and leaves. Each row is said once as the primitives it runs; the attempts chain the rows. -/

namespace Sys2Proof.Machine

/-! ## The channel calls and the waits -/

section Primitives

variable {s : State} {f : Frame} {rest : List Frame}

theorem clock_le_chanWrite (f : Frame) (s : State) : s.clock ≤ (chanWrite f s).clock := Nat.le_add_right s.clock _

theorem clock_le_chanDone (s : State) : s.clock ≤ (chanDone s).clock := Nat.le_add_right s.clock _

theorem clock_le_chanFlush (s : State) : s.clock ≤ (chanFlush s).clock := Nat.le_add_right s.clock _

/-- What a flush and the wait after it change. -/
theorem wait_chanFlush (d : Duration) (s : State) :
    wait d (chanFlush s) = { s.clockSeen (wait d (chanFlush s)).clock with
      freeIndex := (wait d (chanFlush s)).freeIndex
      advances := (wait d (chanFlush s)).advances
      flushAnswers := s.flushAnswers.tail
      out := s.out ++ [.flush, .wait d] } := by
  have hout : s.out ++ [.flush] ++ [.wait d] = s.out ++ [.flush, .wait d] := List.append_assoc _ _ _
  rw [← hout]
  rfl

/-- A flush and the wait after it last at least as long as the wait. -/
theorem clock_le_wait_chanFlush (d : Duration) (s : State) :
    s.clock + d.floorMs ≤ (wait d (chanFlush s)).clock :=
  (Nat.add_le_add_right (clock_le_chanFlush s) _).trans (wait_clock_le d _)

theorem headFrame_of_txFifo (h : s.txFifo = f :: rest) : s.headFrame = f := by simp [State.headFrame, h]

theorem nextWrite_of_script {a : WriteAnswer} {as : List WriteAnswer} (h : s.writeAnswers = a :: as) :
    s.nextWrite = a := by simp [State.nextWrite, h]

theorem nextDone_of_script {a : DoneAnswer} {as : List DoneAnswer} (h : s.doneAnswers = a :: as) :
    s.nextDone = a := by simp [State.nextDone, h]

theorem nextFlush_of_script {a : FlushAnswer} {as : List FlushAnswer} (h : s.flushAnswers = a :: as) :
    s.nextFlush = a := by simp [State.nextFlush, h]

end Primitives

/-! ## What each row runs -/

/-- Where the write's answer leads (rule R206). -/
def phaseAfterWrite : WriteAnswer → Phase
  | .ok => .complete
  | .fail _ => .deassert false

/-- Where the answer to a completion query leads (rule R207). -/
def phaseAfterQuery : DoneAnswer → Phase
  | .done => .deassert true
  | .fail => .deassert false
  | .notYet => .complete

section Rows

variable {s : State} {f : Frame} {rest : List Frame}

theorem exec_txGate_empty (h : s.phase = .drain) (hempty : s.txFifo = []) :
    exec .txGate s = .next (toPhase (.timeout .nothing) s) :=
  (inPhase_here h).trans (if_pos hempty)

theorem exec_txGate_waiting (h : s.phase = .drain) (hwaiting : s.txFifo ≠ []) :
    exec .txGate s =
      if gateOpen (readClock s) then .next (toPhase .assertDe (readClock s))
      else .next (toPhase (.timeout .nothing) (readClock s)) :=
  (inPhase_here h).trans (if_neg hwaiting)

theorem exec_txAssert (h : s.phase = .assertDe) : exec .txAssert s = .next (toPhase .settle1 (setDE true s)) :=
  inPhase_here h

theorem exec_txSettle1 (h : s.phase = .settle1) :
    exec .txSettle1 s = .next (toPhase .write (wait s.params.settle s)) :=
  inPhase_here h

theorem exec_txWrite {a : WriteAnswer} (h : s.phase = .write) (hfifo : s.txFifo = f :: rest) (hw : s.nextWrite = a) :
    exec .txWrite s = .next { s.clockSeen (chanWrite f s).clock with
      freeIndex := (chanWrite f s).freeIndex
      writeAnswers := s.writeAnswers.tail
      chanTx := s.chanTx ++ bytesOnWire a f
      out := s.out ++ [.write f]
      phase := phaseAfterWrite a } := by
  subst hw
  obtain rfl := headFrame_of_txFifo hfifo
  refine (inPhase_here h).trans ?_
  cases hw : s.nextWrite <;> (rw [chanWrite, hw]; rfl)

theorem exec_txCompleteExact {a : DoneAnswer} (h : s.phase = .complete) (hmode : s.params.completion = .exact)
    (hdone : s.nextDone = a) : exec .txCompleteExact s = .next (toPhase (phaseAfterQuery a) (chanDone s)) := by
  refine (inPhase_here h).trans ((if_pos hmode).trans ?_)
  rw [hdone]
  cases a with
  | done => rfl
  | fail => rfl
  | notYet => exact congrArg Host.Outcome.next (congrArg (fun p => toPhase p (chanDone s)) h)

theorem exec_txCompleteFlushEstimate_fail (h : s.phase = .complete) (hmode : s.params.completion = .flushEstimate)
    (hflush : s.nextFlush = .fail) :
    exec .txCompleteFlushEstimate s = .next (toPhase (.deassert false) (chanFlush s)) := by
  refine (inPhase_here h).trans ((if_pos hmode).trans ?_)
  rw [hflush]

theorem exec_txCompleteFlushEstimate_ok (h : s.phase = .complete) (hfifo : s.txFifo = f :: rest)
    (hmode : s.params.completion = .flushEstimate) (hflush : s.nextFlush = .ok) (hbaud : 0 < s.params.baud) :
    exec .txCompleteFlushEstimate s = .next (toPhase (.deassert true)
      (wait ((estimateMs s.params f.length).times s.params.marginFlush) (chanFlush s))) := by
  refine (inPhase_here h).trans ((if_pos hmode).trans ?_)
  rw [hflush, ← headFrame_of_txFifo hfifo]
  exact if_pos hbaud

theorem exec_txCompleteEstimate (h : s.phase = .complete) (hfifo : s.txFifo = f :: rest)
    (hmode : s.params.completion = .estimate) (hbaud : 0 < s.params.baud) :
    exec .txCompleteEstimate s = .next (toPhase (.deassert true)
      (wait ((estimateMs s.params f.length).times s.params.marginNoFlush) s)) := by
  rw [← headFrame_of_txFifo hfifo]
  exact (inPhase_here h).trans ((if_pos hmode).trans (if_pos hbaud))

theorem exec_txDeassert {ok : Bool} (h : s.phase = .deassert ok) :
    exec .txDeassert s = .next (toPhase (.settle2 ok) (setDE false s)) := by
  simp [exec, execTxDeassert, h]

theorem exec_txSettle2 {ok : Bool} (h : s.phase = .settle2 ok) :
    exec .txSettle2 s = .next (toPhase (if ok then .commit else .fail) (wait s.params.settle s)) := by
  simp [exec, execTxSettle2, h]

theorem exec_txCommit (h : s.phase = .commit) :
    exec .txCommit s = .next { s.byteSeen (s.clock + s.nextAdvance) with
      txFifo := s.txFifo.tail
      out := s.out ++ traceTx s.params.trace .sent
      phase := .timeout .sent } :=
  inPhase_here h

theorem exec_txFail (h : s.phase = .fail) :
    exec .txFail s = .next (toPhase (.timeout .failed) (emit (traceTx s.params.trace .failed) s)) :=
  inPhase_here h

end Rows

/-! ## The rows, one by one -/

/-- Settles O35: the gate's condition on the one reading is the comparison of rule R201. -/
theorem lineIdleGateRow : Obligations.LineIdleGateRow := by
  refine ⟨rfl, fun s h => ⟨exec_txGate_empty h, fun hwaiting => ⟨_, clock_le_reading s, ?_⟩⟩⟩
  rw [exec_txGate_waiting h hwaiting]
  exact ⟨fun hopen => if_pos (decide_eq_true hopen),
    fun hclosed => if_neg (mt of_decide_eq_true (Nat.not_le.mpr hclosed))⟩

/-- Settles O36: each row is one write of the output. -/
theorem directionControlRows : Obligations.DirectionControlRows :=
  fun _ => ⟨exec_txAssert, fun _ => exec_txDeassert⟩

/-- Settles O37: each row is one wait of the settle time. -/
theorem settleWaitRows : Obligations.SettleWaitRows :=
  fun s => ⟨fun h => ⟨_, wait_clock_le s.params.settle s, exec_txSettle1 h⟩,
    fun _ h => ⟨_, wait_clock_le s.params.settle s, exec_txSettle2 h⟩⟩

/-- Settles O38: the row is one write of the head frame, and its answer says what reached the wire and which phase is
next. -/
theorem writeRow : Obligations.WriteRow := by
  intro s f rest h hfifo
  exact ⟨fun hok => ⟨_, _, clock_le_chanWrite f s, exec_txWrite h hfifo hok⟩,
    fun k hfail => ⟨_, _, clock_le_chanWrite f s, exec_txWrite h hfifo hfail⟩⟩

/-- Settles O39: the row is one query, and its answer says which phase is next. -/
theorem completeExactRow : Obligations.CompleteExactRow := by
  intro s h hmode
  refine ⟨_, (chanDone s).freeIndex, clock_le_chanDone s, (exec_txCompleteExact h hmode rfl).trans ?_⟩
  cases s.nextDone <;> rfl

/-- Settles O40: by the flush's answer and by the mode; both waits are the estimate of the head frame times a margin. -/
theorem completeByEstimateRows : Obligations.CompleteByEstimateRows := by
  intro s f rest h hfifo hbaud
  refine ⟨fun hmode hflush => ?failed, fun hmode hflush => ?flushed, fun hmode => ?estimated⟩
  case failed => exact ⟨_, _, clock_le_chanFlush s, exec_txCompleteFlushEstimate_fail h hmode hflush⟩
  case flushed =>
    have hrow := exec_txCompleteFlushEstimate_ok h hfifo hmode hflush hbaud
    rw [wait_chanFlush] at hrow
    exact ⟨_, _, (estimateMs s.params f.length).times s.params.marginFlush, _, rfl, rfl,
      clock_le_wait_chanFlush _ s, hrow⟩
  case estimated =>
    exact ⟨_, _, rfl, rfl, wait_clock_le _ s, exec_txCompleteEstimate h hfifo hmode hbaud⟩

/-- Settles O41: the commit row is a stamp and a removal, the failure row neither. -/
theorem outcomeRows : Obligations.OutcomeRows :=
  fun s => ⟨fun h => ⟨_, clock_le_reading s, exec_txCommit h⟩, exec_txFail⟩

/-! ## A stretch of steps, whatever the clock does -/

/-- `s` with another clock: another reading, another script of its progress, another counter of free values. -/
def State.atTime (s : State) (now : Nat) (script : List Nat) (free : Nat) : State :=
  { s with clock := now, advances := script, freeIndex := free }

/-- Whatever the clock of `s` does, `n` steps lead from `s` to `u` with some later clock, and take at least `ms`
milliseconds. -/
def Proceeds (n ms : Nat) (s u : State) : Prop :=
  ∀ now script free, ∃ now' script' free', now + ms ≤ now' ∧
    Sys2Proof.core.run n (s.atTime now script free) = .next (u.atTime now' script' free')

/-- In the phases of a send attempt a step is the phase's row. -/
theorem step_sending {s : State} {i : Instr} (h : s.phase.sending = true)
    (hi : decodePhase s.phase s.params.completion = .instr i) : step s = exec i s := by
  refine step_phase ?_ ?_ hi <;> intro hphase <;> simp [hphase, Phase.sending] at h

section Proceeds

variable {m n x y : Nat} {s u v : State}

theorem Proceeds.refl (s : State) : Proceeds 0 0 s s := fun now script free => ⟨now, script, free, le_rfl, rfl⟩

theorem Proceeds.trans (h : Proceeds m x s u) (h' : Proceeds n y u v) : Proceeds (m + n) (x + y) s v := by
  intro now script free
  obtain ⟨now₁, script₁, free₁, hle, hrun⟩ := h now script free
  obtain ⟨now₂, script₂, free₂, hle', hrun'⟩ := h' now₁ script₁ free₁
  exact ⟨now₂, script₂, free₂, by omega, (run_add hrun).trans hrun'⟩

/-- One row of a send attempt, from what it answers at every clock. -/
theorem Proceeds.row {i : Instr} {p : Phase} (h : s.phase = p) (hp : p.sending = true)
    (hi : decodePhase p s.params.completion = .instr i)
    (hrow : ∀ now script free, ∃ t, exec i (s.atTime now script free) = .next t ∧ now + x ≤ t.clock ∧
      t = u.atTime t.clock t.advances t.freeIndex) : Proceeds 1 x s u := by
  subst h
  intro now script free
  obtain ⟨t, hexec, hle, ht⟩ := hrow now script free
  exact ⟨_, _, _, hle, run_succ (k := 0) ((step_sending (s := s.atTime now script free) hp hi).trans (ht ▸ hexec))⟩

end Proceeds

/-! ## The rows of an attempt as stretches -/

/-- `s` after the rows up to the write of `f`, to which the channel answers `a` (rules R204 to R206). -/
def State.written (s : State) (f : Frame) (a : WriteAnswer) : State :=
  { s with
    phase := phaseAfterWrite a
    de := true
    chanTx := s.chanTx ++ bytesOnWire a f
    out := s.out ++ [.drive true, .wait s.params.settle, .write f]
    writeAnswers := s.writeAnswers.tail }

/-- `s` after a completion wait that showed `shown`, left the answers `das` and `fas`, and succeeded or not. -/
def State.waited (s : State) (shown : List Output) (ok : Bool) (das : List DoneAnswer) (fas : List FlushAnswer) :
    State :=
  { s with
    phase := .deassert ok
    out := s.out ++ shown
    doneAnswers := das
    flushAnswers := fas }

/-- `s` after the output has fallen and the second settle wait (rules R210, R211). -/
def State.lowered (s : State) (ok : Bool) : State :=
  { s with
    phase := if ok then .commit else .fail
    de := false
    out := s.out ++ [.drive false, .wait s.params.settle] }

section Stretches

variable {s : State} {f : Frame} {fs : List Frame} {ok : Bool}

theorem proceeds_assert (h : s.phase = .assertDe) :
    Proceeds 1 0 s { s with phase := .settle1, de := true, out := s.out ++ [.drive true] } :=
  .row h rfl rfl fun now script free => ⟨_, exec_txAssert (s := s.atTime now script free) h, le_rfl, rfl⟩

theorem proceeds_settle1 (h : s.phase = .settle1) :
    Proceeds 1 s.params.settle.floorMs s { s with phase := .write, out := s.out ++ [.wait s.params.settle] } :=
  .row h rfl rfl fun now script free =>
    ⟨_, exec_txSettle1 (s := s.atTime now script free) h,
      wait_clock_le s.params.settle (s.atTime now script free), rfl⟩

theorem proceeds_write {a : WriteAnswer} {was : List WriteAnswer} (h : s.phase = .write) (hfifo : s.txFifo = f :: fs)
    (hscript : s.writeAnswers = a :: was) :
    Proceeds 1 0 s { s with
      phase := phaseAfterWrite a
      chanTx := s.chanTx ++ bytesOnWire a f
      out := s.out ++ [.write f]
      writeAnswers := s.writeAnswers.tail } :=
  .row h rfl rfl fun now script free =>
    ⟨_, exec_txWrite (s := s.atTime now script free) h hfifo (nextWrite_of_script hscript),
      clock_le_chanWrite f (s.atTime now script free), rfl⟩

theorem proceeds_query {a : DoneAnswer} {das : List DoneAnswer} (h : s.phase = .complete)
    (hmode : s.params.completion = .exact) (hscript : s.doneAnswers = a :: das) :
    Proceeds 1 0 s { s with
      phase := phaseAfterQuery a
      out := s.out ++ [.askDone]
      doneAnswers := s.doneAnswers.tail } :=
  .row h rfl (congrArg _ hmode) fun now script free =>
    ⟨_, exec_txCompleteExact (s := s.atTime now script free) h hmode (nextDone_of_script hscript),
      clock_le_chanDone (s.atTime now script free), rfl⟩

theorem proceeds_flush_fail {fas : List FlushAnswer} (h : s.phase = .complete)
    (hmode : s.params.completion = .flushEstimate) (hscript : s.flushAnswers = .fail :: fas) :
    Proceeds 1 0 s (s.waited [.flush] false s.doneAnswers s.flushAnswers.tail) :=
  .row h rfl (congrArg _ hmode) fun now script free =>
    ⟨_, exec_txCompleteFlushEstimate_fail (s := s.atTime now script free) h hmode (nextFlush_of_script hscript),
      clock_le_chanFlush (s.atTime now script free), rfl⟩

theorem proceeds_flush_ok {fas : List FlushAnswer} {d : Duration} (h : s.phase = .complete) (hfifo : s.txFifo = f :: fs)
    (hmode : s.params.completion = .flushEstimate) (hbaud : 0 < s.params.baud) (hscript : s.flushAnswers = .ok :: fas)
    (hd : d = (estimateMs s.params f.length).times s.params.marginFlush) :
    Proceeds 1 d.floorMs s (s.waited [.flush, .wait d] true s.doneAnswers s.flushAnswers.tail) := by
  subst hd
  refine .row h rfl (congrArg _ hmode) fun now script free =>
    ⟨_, exec_txCompleteFlushEstimate_ok (s := s.atTime now script free) h hfifo hmode (nextFlush_of_script hscript)
      hbaud,
      clock_le_wait_chanFlush _ (s.atTime now script free), ?_⟩
  rw [wait_chanFlush]
  rfl

theorem proceeds_estimate {d : Duration} (h : s.phase = .complete) (hfifo : s.txFifo = f :: fs)
    (hmode : s.params.completion = .estimate) (hbaud : 0 < s.params.baud)
    (hd : d = (estimateMs s.params f.length).times s.params.marginNoFlush) :
    Proceeds 1 d.floorMs s (s.waited [.wait d] true s.doneAnswers s.flushAnswers) := by
  subst hd
  exact .row h rfl (congrArg _ hmode) fun now script free =>
    ⟨_, exec_txCompleteEstimate (s := s.atTime now script free) h hfifo hmode hbaud,
      wait_clock_le _ (s.atTime now script free), rfl⟩

/-- After a failed write there is no completion wait. -/
theorem proceeds_unwaited (h : s.phase = .deassert ok) :
    Proceeds 0 0 s (s.waited [] ok s.doneAnswers s.flushAnswers) := by
  have hnone : s.waited [] ok s.doneAnswers s.flushAnswers = s := by simp [State.waited, ← h]
  rw [hnone]
  exact .refl s

theorem proceeds_deassert (h : s.phase = .deassert ok) :
    Proceeds 1 0 s { s with phase := .settle2 ok, de := false, out := s.out ++ [.drive false] } :=
  .row h rfl rfl fun now script free => ⟨_, exec_txDeassert (s := s.atTime now script free) h, le_rfl, rfl⟩

theorem proceeds_settle2 (h : s.phase = .settle2 ok) :
    Proceeds 1 s.params.settle.floorMs s { s with
      phase := if ok then .commit else .fail
      out := s.out ++ [.wait s.params.settle] } :=
  .row h rfl rfl fun now script free =>
    ⟨_, exec_txSettle2 (s := s.atTime now script free) h,
      wait_clock_le s.params.settle (s.atTime now script free), rfl⟩

/-- Queries that answer false, and one that ends the wait: by induction on their number. -/
theorem proceeds_queries {k : Nat} {a : DoneAnswer} {das : List DoneAnswer} (h : s.phase = .complete)
    (hmode : s.params.completion = .exact) (hscript : s.doneAnswers = List.replicate k .notYet ++ a :: das)
    (hend : phaseAfterQuery a = .deassert ok) :
    Proceeds (k + 1) 0 s (s.waited (List.replicate (k + 1) .askDone) ok das s.flushAnswers) := by
  induction k generalizing s with
  | zero =>
    have hquery := proceeds_query h hmode hscript
    rw [hend, hscript] at hquery
    exact hquery
  | succ k ih =>
    have hquery := proceeds_query h hmode hscript
    rw [hscript] at hquery
    have hrest := hquery.trans (ih rfl hmode rfl)
    rw [Nat.add_comm 1] at hrest
    simpa [State.waited, List.replicate_succ] using hrest

theorem proceeds_written {a : WriteAnswer} {was : List WriteAnswer} (h : s.phase = .assertDe)
    (hfifo : s.txFifo = f :: fs) (hscript : s.writeAnswers = a :: was) : Proceeds 3 s.params.settle.floorMs s (s.written f a) := by
  have hrows := (proceeds_assert h).trans ((proceeds_settle1 rfl).trans (proceeds_write rfl hfifo hscript))
  simpa [State.written] using hrows

theorem proceeds_lowered (h : s.phase = .deassert ok) : Proceeds 2 s.params.settle.floorMs s (s.lowered ok) := by
  have hrows := (proceeds_deassert h).trans (proceeds_settle2 rfl)
  simpa [State.lowered] using hrows

end Stretches

/-! ## Whole attempts -/

section Attempts

variable {s : State} {f : Frame} {fs : List Frame} {was : List WriteAnswer} {n ms : Nat} {shown : List Output}
  {das : List DoneAnswer} {fas : List FlushAnswer} (h : s.phase = .assertDe) (hfifo : s.txFifo = f :: fs)

include h hfifo

/-- An attempt up to its outcome, given its completion wait. -/
theorem proceeds_outcome {a : WriteAnswer} {ok : Bool} (hscript : s.writeAnswers = a :: was)
    (hwait : Proceeds n ms (s.written f a) ((s.written f a).waited shown ok das fas)) :
    Proceeds (5 + n) (s.params.settle.floorMs + ms + s.params.settle.floorMs) s
      (((s.written f a).waited shown ok das fas).lowered ok) := by
  have hrows := ((proceeds_written h hfifo hscript).trans hwait).trans (proceeds_lowered rfl)
  rwa [show 3 + n + 2 = 5 + n by omega] at hrows

/-- A completion wait that succeeds makes the attempt succeed: the commit row follows. -/
theorem attemptSent_of_waited (hscript : s.writeAnswers = .ok :: was)
    (hwait : Proceeds n ms (s.written f .ok) ((s.written f .ok).waited shown true das fas)) :
    ∃ t, Sys2Proof.core.run (6 + n) s = .next t ∧ t.doneAnswers = das ∧ t.flushAnswers = fas ∧
      s.attemptSent t f fs shown ms := by
  obtain ⟨now, script, free, hle, hrun⟩ := proceeds_outcome h hfifo hscript hwait s.clock s.advances s.freeIndex
  rw [show 6 + n = 5 + n + 1 by omega]
  refine ⟨_, (run_add hrun).trans (run_succ (k := 0) ((step_sending rfl rfl).trans (exec_txCommit rfl))), rfl, rfl,
    ?_, ?_⟩
  · exact Nat.le_trans (by omega) (Nat.le_add_right now _)
  · simp [State.lowered, State.waited, State.written, State.atTime, State.byteSeen, State.clockSeen, State.attemptShows,
      bytesOnWire, hfifo]

/-- A write or a completion wait that fails makes the attempt fail: the failure row follows. -/
theorem attemptFailed_of_waited {a : WriteAnswer} (hscript : s.writeAnswers = a :: was)
    (hwait : Proceeds n 0 (s.written f a) ((s.written f a).waited shown false das fas)) :
    ∃ t, Sys2Proof.core.run (6 + n) s = .next t ∧ t.doneAnswers = das ∧ t.flushAnswers = fas ∧
      s.attemptFailed t f (bytesOnWire a f) shown := by
  obtain ⟨now, script, free, hle, hrun⟩ := proceeds_outcome h hfifo hscript hwait s.clock s.advances s.freeIndex
  rw [show 6 + n = 5 + n + 1 by omega]
  refine ⟨_, (run_add hrun).trans (run_succ (k := 0) ((step_sending rfl rfl).trans (exec_txFail rfl))), rfl, rfl,
    ?_, ?_⟩
  · exact Nat.le_trans (by omega) (le_refl now)
  · simp [State.lowered, State.waited, State.written, State.atTime, State.attemptShows, toPhase, emit]

end Attempts

/-- Settles O59: each mode has its completion wait, and a wait that succeeds is followed by the same rows. -/
theorem successfulAttemptTrace : Obligations.SuccessfulAttemptTrace := by
  intro s f fs was h hfifo hscript
  refine ⟨fun k das hmode hdone => ?exact, fun fas hmode hbaud hflush => ?flushEstimate, fun hmode hbaud => ?estimate⟩
  case exact =>
    rw [show 7 + k = 6 + (k + 1) by omega]
    exact attemptSent_of_waited h hfifo hscript (proceeds_queries rfl hmode hdone rfl)
  case flushEstimate =>
    obtain ⟨t, hrun, hdas, hfas, hsent⟩ := attemptSent_of_waited h hfifo hscript
      (proceeds_flush_ok (s := s.written f .ok) rfl hfifo hmode hbaud hflush rfl)
    exact ⟨t, _, rfl, rfl, hrun, hfas.trans (congrArg List.tail hflush), hdas, hsent⟩
  case estimate =>
    obtain ⟨t, hrun, hdas, hfas, hsent⟩ := attemptSent_of_waited h hfifo hscript
      (proceeds_estimate (s := s.written f .ok) rfl hfifo hmode hbaud rfl)
    exact ⟨t, _, rfl, rfl, hrun, hfas, hdas, hsent⟩

/-- Settles O60: a failed write has no completion wait, a failed query or flush ends it, and the same rows follow. -/
theorem failedAttemptTrace : Obligations.FailedAttemptTrace := by
  intro s f fs h hfifo
  refine ⟨fun k was hscript => ?write, fun k was das hscript hmode hdone => ?query,
    fun was fas hscript hmode hflush => ?flush⟩
  case write => exact attemptFailed_of_waited h hfifo hscript (proceeds_unwaited rfl)
  case query =>
    rw [show 7 + k = 6 + (k + 1) by omega]
    exact attemptFailed_of_waited h hfifo hscript (proceeds_queries rfl hmode hdone rfl)
  case flush =>
    obtain ⟨t, hrun, hdas, hfas, hfailed⟩ := attemptFailed_of_waited h hfifo hscript
      (proceeds_flush_fail (s := s.written f .ok) rfl hmode hflush)
    exact ⟨t, hrun, hfas.trans (congrArg List.tail hflush), hdas, hfailed⟩

end Sys2Proof.Machine
end

section
/-! PROOFS. The statements of 45_bus_engine.md: what each host operation answers and leaves alone, and that a TICK runs
through the drain, the transmit step and the timeout check to its answer. -/

namespace Sys2Proof.Machine

/-! ## CONSTRUCT -/

section Construct

variable {s : State} {addr : Byte} {settle : Duration} {baud : Int} {completion : Completion}

theorem settleOperandOk_iff : settleOperandOk settle = true ↔ 0 < settle.num ∧ 0 < settle.den := by
  simp [settleOperandOk, Duration.positive]

theorem baudUsable_iff : baudUsable completion baud = true ↔ (completion ≠ .exact → 0 < baud) := by
  cases completion <;> simp [baudUsable]

theorem exec_construct_badAddr (h : s.phase = .idle) (haddr : addrOperandOk addr = false) :
    exec (.construct addr settle baud completion) s = .next { s with result := .status .eAddr } :=
  (portOp_ready h).trans (if_pos (by rw [haddr]; rfl))

variable (h : s.phase = .idle) (haddr : addrOperandOk addr = true)

include h haddr

theorem exec_construct_badSettle (hsettle : settleOperandOk settle = false) :
    exec (.construct addr settle baud completion) s = .next { s with result := .status .eSettle } := by
  refine (portOp_ready h).trans ?_
  rw [haddr, hsettle]
  rfl

theorem exec_construct_badBaud (hsettle : settleOperandOk settle = true) (hbaud : baudUsable completion baud = false) :
    exec (.construct addr settle baud completion) s = .refused .baudNotPositive := by
  refine (portOp_ready h).trans ?_
  rw [haddr, hsettle, hbaud]
  rfl

theorem exec_construct_ok (hsettle : settleOperandOk settle = true) (hbaud : baudUsable completion baud = true) :
    exec (.construct addr settle baud completion) s =
      .next (respond (.status .ok) (constructed addr settle baud completion s)) := by
  refine (portOp_ready h).trans ?_
  rw [haddr, hsettle, hbaud]
  rfl

end Construct

/-- Settles O13: all three checks pass, and what is left is one clock reading and the fresh engine. -/
theorem constructBuildsAnEngine : Obligations.ConstructBuildsAnEngine := by
  intro s addr settle baud completion h haddr hnum hden hbaud
  exact ⟨_, clock_le_reading s, exec_construct_ok h ((addrOperandOk_eq addr).trans (decide_eq_true haddr))
    (settleOperandOk_iff.mpr ⟨hnum, hden⟩) (baudUsable_iff.mpr hbaud)⟩

/-- Settles O14: the checks in their order, each reached when the ones before it pass. -/
theorem constructRejectsBadArguments : Obligations.ConstructRejectsBadArguments := by
  intro s addr settle baud completion h
  refine ⟨fun haddr => ?addr, fun haddr hnum => ?settle, fun haddr hnum hden hmode hbaud => ?baud⟩
  case addr => exact exec_construct_badAddr h (by simp [addrOperandOk_eq, haddr])
  case settle =>
    exact exec_construct_badSettle h (by simp [addrOperandOk_eq, haddr])
      (Bool.eq_false_iff.mpr fun hok => Int.not_lt.mpr hnum (settleOperandOk_iff.mp hok).1)
  case baud =>
    exact exec_construct_badBaud h (by simp [addrOperandOk_eq, haddr]) (settleOperandOk_iff.mpr ⟨hnum, hden⟩)
      (Bool.eq_false_iff.mpr fun hok => Int.not_lt.mpr hbaud (baudUsable_iff.mp hok hmode))

/-! ## ENQUEUE and REPLY -/

section Enqueue

variable {s : State} {dest tid : Byte} {payload : List Byte}

theorem payloadLengthOk_iff : payloadLengthOk payload = true ↔ 1 ≤ payload.length ∧ payload.length ≤ 255 := by
  rw [payloadLengthOk, Bool.and_eq_true, decide_eq_true_iff, decide_eq_true_iff, MAX_PAYLOAD]

theorem enqueueFrame_badLength (h : payload.length = 0 ∨ 255 < payload.length) :
    enqueueFrame dest payload tid s = { s with result := .status .eLen } := by
  have hlen : payloadLengthOk payload = false := Bool.eq_false_iff.mpr fun hok => by
    have := payloadLengthOk_iff.mp hok
    omega
  rw [enqueueFrame, hlen]
  rfl

variable (hmin : 1 ≤ payload.length) (hmax : payload.length ≤ 255)

include hmin hmax

theorem enqueueFrame_full {d : Nat} (hdepth : s.params.txqDepth = some d) (hfull : d ≤ s.txFifo.length) :
    enqueueFrame dest payload tid s = { s with result := .status .eQueueFull } := by
  rw [enqueueFrame, payloadLengthOk_iff.mpr ⟨hmin, hmax⟩, fifoFull_eq_true hdepth hfull]
  rfl

theorem enqueueFrame_room (hroom : ∀ d, s.params.txqDepth = some d → s.txFifo.length < d) :
    enqueueFrame dest payload tid s =
      { s with txFifo := s.txFifo ++ [frameBytes dest s.ownAddr tid payload], result := .status .ok } := by
  rw [enqueueFrame, payloadLengthOk_iff.mpr ⟨hmin, hmax⟩, fifoFull_eq_false hroom]
  rfl

end Enqueue

theorem exec_enqueue {s : State} (h : s.phase = .idle) (hb : s.built = true) (dest tid : Byte) (payload : List Byte) :
    exec (.enqueue dest payload tid) s = .next (enqueueFrame dest payload tid s) :=
  hostOp_ready h hb

/-- Settles O16: by the length check and the room in the queue. -/
theorem enqueueAppendsTheFrame : Obligations.EnqueueAppendsTheFrame := by
  intro s dest payload tid h hb
  rw [exec_enqueue h hb]
  exact ⟨fun hmin hmax hroom => congrArg _ (enqueueFrame_room hmin hmax hroom),
    fun hlen => congrArg _ (enqueueFrame_badLength hlen)⟩

/-- Settles O17: the length check comes first, the full queue second. -/
theorem enqueueRejects : Obligations.EnqueueRejects := by
  intro s dest payload tid h hb
  rw [exec_enqueue h hb]
  exact ⟨fun hlen => congrArg _ (enqueueFrame_badLength hlen),
    fun d hmin hmax hdepth hfull => congrArg _ (enqueueFrame_full hmin hmax hdepth hfull)⟩

/-- Settles O21: the broadcast test decides between the refusal and `enqueueFrame`, which ENQUEUE runs as well. -/
theorem replyEnqueuesToTheSource : Obligations.ReplyEnqueuesToTheSource := by
  intro s m payload override h hb
  refine ⟨fun hdst hoverride => ?refused, fun hallowed => ?enqueued⟩
  case refused => exact (hostOp_ready h hb).trans (if_pos (by simp [hdst, hoverride, BROADCAST]))
  case enqueued =>
    have hbroadcast : ¬(m.dst == BROADCAST && !override) = true := by simpa [BROADCAST, imp_iff_not_or] using hallowed
    have hreply : exec (.reply m payload override) s = .next (enqueueFrame m.src payload m.tid s) :=
      (hostOp_ready h hb).trans (if_neg hbroadcast)
    rw [hreply]
    exact ⟨(exec_enqueue h hb ..).symm, fun hmin hmax hroom => congrArg _ (enqueueFrame_room hmin hmax hroom)⟩

/-! ## The other operations that do not start a TICK -/

/-- Settles O18: each of them is one answer behind the guard. -/
theorem pureReadsAnswer : Obligations.PureReadsAnswer :=
  fun _ h hb => ⟨hostOp_ready h hb, hostOp_ready h hb, hostOp_ready h hb, fun _ => hostOp_ready h hb⟩

/-- Settles O19: by the inbound FIFO, whose head the answer is and whose tail stays. -/
theorem readTakesTheOldest : Obligations.ReadTakesTheOldest := by
  intro s h hb
  refine ⟨fun m rest hfifo => (hostOp_ready h hb).trans ?taken, fun hfifo => (hostOp_ready h hb).trans ?empty⟩
  case taken => simp only [respond, popRx, hfifo, List.tail_cons]
  case empty => simp only [raise, respond, hfifo]

/-- Settles O20: by the address check (`addrOperandOk_eq`). -/
theorem setAddrReplacesTheAddress : Obligations.SetAddrReplacesTheAddress := by
  intro s a h hb
  refine ⟨fun ha => (hostOp_ready h hb).trans (if_pos ?_), fun ha => (hostOp_ready h hb).trans (if_neg ?_)⟩
  · exact (addrOperandOk_eq a).trans (decide_eq_true ha)
  · simpa [addrOperandOk_eq] using ha

/-! ## TICK -/

/-- Settles O15: TICK's own row is the guard and the first phase. -/
theorem tickBeginsWithTheDrain : Obligations.TickBeginsWithTheDrain := fun _ => hostOp_ready

/-- The command of code 1 is TICK's (rule R103). -/
theorem decodeCommand_tick {c : Command} (h : c.code = 1#4) : decodeCommand c = .tick := by simp [decodeCommand, h]

/-! ## Reaching a state in some number of steps -/

/-- Some number of steps leads from `s` to a state that meets `P`. -/
def Reaches (s : State) (P : State → Prop) : Prop := ∃ n t, Sys2Proof.core.run n s = .next t ∧ P t

/-- The invariant holds along every run: each step keeps it. -/
theorem State.Inv.run {s t : State} {n : Nat} (h : s.Inv) (hrun : Sys2Proof.core.run n s = .next t) : t.Inv := by
  induction n generalizing s with
  | zero => cases hrun; exact h
  | succ n ih =>
    cases hs : step s with
    | next s' => exact ih (everyStepKeepsTheInvariant s s' h hs) ((run_succ hs).symm.trans hrun)
    | fault e => simp [Host.Core.run, Sys2Proof.core, hs] at hrun
    | refused e => simp [Host.Core.run, Sys2Proof.core, hs] at hrun

section Reaches

variable {s t : State} {P Q : State → Prop}

theorem Reaches.here (h : P s) : Reaches s P := ⟨0, s, rfl, h⟩

theorem Reaches.after (hstep : step s = .next t) (h : Reaches t P) : Reaches s P := by
  obtain ⟨n, u, hrun, hu⟩ := h
  exact ⟨n + 1, u, (run_succ hstep).trans hrun, hu⟩

theorem Reaches.trans (h : Reaches s P) (h' : ∀ t, P t → Reaches t Q) : Reaches s Q := by
  obtain ⟨m, t, hrun, ht⟩ := h
  obtain ⟨n, u, hrun', hu⟩ := h' t ht
  exact ⟨m + n, u, (run_add hrun).trans hrun', hu⟩

/-- What is reached from a state that meets the invariant meets it too. -/
theorem Reaches.inv (h : Reaches s P) (hinv : s.Inv) : Reaches s fun t => t.Inv ∧ P t := by
  obtain ⟨n, t, hrun, ht⟩ := h
  exact ⟨n, t, hrun, hinv.run hrun, ht⟩

end Reaches

/-! ## What a TICK leaves alone -/

/-- The later state `t` of a TICK that stood in `s` has the same commands to come, address and parameters. -/
structure State.SameTick (s t : State) : Prop where
  commands : t.commands = s.commands
  ownAddr : t.ownAddr = s.ownAddr
  params : t.params = s.params

theorem State.SameTick.refl (s : State) : s.SameTick s := ⟨rfl, rfl, rfl⟩

theorem State.SameTick.trans {s t u : State} (h : s.SameTick t) (h' : t.SameTick u) : s.SameTick u :=
  ⟨h'.commands.trans h.commands, h'.ownAddr.trans h.ownAddr, h'.params.trans h.params⟩

/-! ## The receive drain (rule R236) -/

/-- The drain that stood in `s` has taken `n` bytes and stands in `t`, with the items `left` still to come. -/
structure State.Drained (s : State) (n : Nat) (left : List RxItem) (t : State) : Prop extends s.SameTick t where
  phase : t.phase = .drain
  chanRx : t.chanRx = left
  txFifo : t.txFifo = s.txFifo
  chanTx : t.chanTx = s.chanTx
  doneAnswers : t.doneAnswers = s.doneAnswers
  rxFifo : ∃ ms, t.rxFifo = s.rxFifo ++ ms ∧ ms.length ≤ n

section Drain

variable {s t u : State} {left : List RxItem}

theorem State.Drained.trans {m n : Nat} {mid : List RxItem} (h : s.Drained m mid t) (h' : t.Drained n left u) :
    s.Drained (m + n) left u := by
  obtain ⟨ms, hms, hlen⟩ := h.rxFifo
  obtain ⟨ms', hms', hlen'⟩ := h'.rxFifo
  exact {
    toSameTick := h.toSameTick.trans h'.toSameTick
    phase := h'.phase
    chanRx := h'.chanRx
    txFifo := h'.txFifo.trans h.txFifo
    chanTx := h'.chanTx.trans h.chanTx
    doneAnswers := h'.doneAnswers.trans h.doneAnswers
    rxFifo := ⟨ms ++ ms', by rw [hms', hms, List.append_assoc], by rw [List.length_append]; omega⟩ }

/-- One byte: its row answers (`rxByte_completes`), and appends at most one message (`wire_effect`). -/
theorem step_byte_drained {b : Byte} (hinv : s.Inv) (hphase : s.phase = .drain) (hchan : s.chanRx = .byte b :: left) :
    ∃ t, step s = .next t ∧ s.Drained 1 left t := by
  obtain ⟨t, ht⟩ := rxByte_completes (s := { s with chanRx := left }) hinv.reception.mpr b
  rw [rxByte_eq_exec_decodeWire] at ht
  obtain ⟨hframe, -, hfifo, -⟩ := wire_effect ht
  refine ⟨t, (step_byte hphase hchan).trans ht, {
    commands := (congrArg State.commands hframe :)
    ownAddr := (congrArg State.ownAddr hframe :)
    params := (congrArg State.params hframe :)
    phase := (congrArg State.phase hframe).trans hphase
    chanRx := (congrArg State.chanRx hframe :)
    txFifo := (congrArg State.txFifo hframe :)
    chanTx := (congrArg State.chanTx hframe :)
    doneAnswers := (congrArg State.doneAnswers hframe :)
    rxFifo := ?_ }⟩
  rcases hfifo with hkeep | ⟨r, -, -, -, happend⟩
  · exact ⟨[], hkeep.trans (List.append_nil _).symm, Nat.zero_le 1⟩
  · exact ⟨[messageOf r], happend, le_rfl⟩

/-- The drain takes every byte before the mark that ends it. -/
theorem reaches_drained {bytes : List Byte} (hinv : s.Inv) (hphase : s.phase = .drain)
    (hchan : s.chanRx = bytes.map .byte ++ left) : Reaches s (s.Drained bytes.length left) := by
  induction bytes generalizing s with
  | nil => exact .here ⟨.refl s, hphase, hchan, rfl, rfl, rfl, [], by simp⟩
  | cons b bytes ih =>
    obtain ⟨t, hstep, ht⟩ := step_byte_drained hinv hphase hchan
    refine .after hstep ((ih (everyStepKeepsTheInvariant s t hinv hstep) ht.phase ht.chanRx).trans fun u hu => .here ?_)
    rw [List.length_cons, Nat.add_comm]
    exact ht.trans hu

end Drain

/-! ## The transmit step (rules R200 to R213) -/

/-- In EXACT mode, the only one that asks, the channel's script answers some completion query with true or fail. -/
def State.QueryAnswered (s : State) : Prop :=
  s.params.completion = .exact → ∃ k a more, s.doneAnswers = List.replicate k .notYet ++ a :: more ∧ a ≠ .notYet

/-- What each `tx_result` says of the queue and of the wire, before and after (rules R200, R212, R213). -/
def TransmitEffect (queue : List Frame) (wire : List Byte) (queue' : List Frame) (wire' : List Byte) : TxResult → Prop
  | .nothing => queue' = queue ∧ wire' = wire
  | .sent => ∃ f, queue = f :: queue' ∧ wire' = wire ++ f
  | .failed => queue' = queue ∧ ∃ f fs k, queue = f :: fs ∧ wire' = wire ++ f.take k

/-- A transmit step that began in `s` has ended in `t` with the result `r`; the receive side is as before. -/
structure State.Transmitted (s : State) (r : TxResult) (t : State) : Prop extends s.SameTick t where
  phase : t.phase = .timeout r
  chanRx : t.chanRx = s.chanRx
  rxFifo : t.rxFifo = s.rxFifo
  effect : TransmitEffect s.txFifo s.chanTx t.txFifo t.chanTx r

theorem phaseAfterQuery_ends {a : DoneAnswer} (h : a ≠ .notYet) : ∃ ok, phaseAfterQuery a = .deassert ok := by
  cases a with
  | done => exact ⟨true, rfl⟩
  | notYet => exact absurd rfl h
  | fail => exact ⟨false, rfl⟩

/-- In a phase of a send attempt a step is that phase's row. -/
theorem step_sending_at {s : State} {p : Phase} {i : Instr} (h : s.phase = p) (hp : p.sending = true)
    (hi : decodePhase p s.params.completion = .instr i) : step s = exec i s := by
  subst h
  exact step_sending hp hi

/-- A send attempt that began in `s` stands in `t` at the phase `p`, with `wire` as the channel's transmit stream and `das`
as the answers to come; the queues are as before. -/
structure State.Attempting (s : State) (p : Phase) (wire : List Byte) (das : List DoneAnswer) (t : State) : Prop
    extends s.SameTick t where
  phase : t.phase = p
  chanRx : t.chanRx = s.chanRx
  rxFifo : t.rxFifo = s.rxFifo
  txFifo : t.txFifo = s.txFifo
  chanTx : t.chanTx = wire
  doneAnswers : t.doneAnswers = das

section Attempt

variable {s t u : State} {f : Frame} {fs : List Frame} {p q : Phase} {wire wire' : List Byte} {das das' : List DoneAnswer}

theorem State.Attempting.trans (h : s.Attempting p wire das t) (h' : t.Attempting q wire' das' u) :
    s.Attempting q wire' das' u where
  toSameTick := h.toSameTick.trans h'.toSameTick
  phase := h'.phase
  chanRx := h'.chanRx.trans h.chanRx
  rxFifo := h'.rxFifo.trans h.rxFifo
  txFifo := h'.txFifo.trans h.txFifo
  chanTx := h'.chanTx
  doneAnswers := h'.doneAnswers

/-- A stretch of steps of an attempt, whatever the clock does. -/
theorem Proceeds.reaches {n ms : Nat} (h : Proceeds n ms s u) (hu : s.Attempting p wire das u) :
    Reaches s (s.Attempting p wire das) := by
  obtain ⟨now, script, free, -, hrun⟩ := h s.clock s.advances s.freeIndex
  exact ⟨n, _, hrun, ⟨hu.commands, hu.ownAddr, hu.params⟩, hu.phase, hu.chanRx, hu.rxFifo, hu.txFifo, hu.chanTx,
    hu.doneAnswers⟩

/-- The write, whether or not its answer is scripted. -/
theorem reaches_write (h : s.phase = .write) (hfifo : s.txFifo = f :: fs) :
    Reaches s fun t => ∃ a, s.Attempting (phaseAfterWrite a) (s.chanTx ++ bytesOnWire a f) s.doneAnswers t :=
  .after ((step_sending_at h rfl rfl).trans (exec_txWrite h hfifo rfl))
    (.here ⟨s.nextWrite, ⟨rfl, rfl, rfl⟩, rfl, rfl, rfl, rfl, rfl, rfl⟩)

theorem reaches_written (h : s.phase = .assertDe) (hfifo : s.txFifo = f :: fs) :
    Reaches s fun t => ∃ a, s.Attempting (phaseAfterWrite a) (s.chanTx ++ bytesOnWire a f) s.doneAnswers t := by
  have hsettled : Reaches s (s.Attempting .write s.chanTx s.doneAnswers) :=
    ((proceeds_assert h).trans (proceeds_settle1 rfl)).reaches ⟨⟨rfl, rfl, rfl⟩, rfl, rfl, rfl, rfl, rfl, rfl⟩
  refine hsettled.trans fun t ht => (reaches_write ht.phase (ht.txFifo.trans hfifo)).trans fun u ⟨a, hu⟩ => ?_
  rw [ht.chanTx, ht.doneAnswers] at hu
  exact .here ⟨a, ht.trans hu⟩

theorem attempting_flush_wait (s : State) (d : Duration) :
    s.Attempting (.deassert true) s.chanTx s.doneAnswers (toPhase (.deassert true) (wait d (chanFlush s))) := by
  refine ⟨⟨?_, ?_, ?_⟩, ?_, ?_, ?_, ?_, ?_, ?_⟩ <;> simp

/-- The flush of the FLUSH_ESTIMATE mode, whether or not its answer is scripted. -/
theorem reaches_flushed (h : s.phase = .complete) (hfifo : s.txFifo = f :: fs)
    (hmode : s.params.completion = .flushEstimate) (hbaud : 0 < s.params.baud) :
    Reaches s fun t => ∃ ok, s.Attempting (.deassert ok) s.chanTx s.doneAnswers t := by
  have hstep : step s = exec .txCompleteFlushEstimate s := step_sending_at h rfl (by rw [hmode]; rfl)
  cases hflush : s.nextFlush with
  | ok =>
    exact .after (hstep.trans (exec_txCompleteFlushEstimate_ok h hfifo hmode hflush hbaud))
      (.here ⟨true, attempting_flush_wait s _⟩)
  | fail =>
    exact .after (hstep.trans (exec_txCompleteFlushEstimate_fail h hmode hflush))
      (.here ⟨false, ⟨rfl, rfl, rfl⟩, rfl, rfl, rfl, rfl, rfl, rfl⟩)

/-- The completion wait ends, in each mode. -/
theorem reaches_waited (h : s.phase = .complete) (hfifo : s.txFifo = f :: fs)
    (hbaud : baudUsable s.params.completion s.params.baud = true) (hquery : s.QueryAnswered) :
    Reaches s fun t => ∃ ok das, s.Attempting (.deassert ok) s.chanTx das t := by
  rw [baudUsable_iff] at hbaud
  cases hmode : s.params.completion with
  | exact =>
    obtain ⟨k, a, more, hscript, hanswered⟩ := hquery hmode
    obtain ⟨ok, hend⟩ := phaseAfterQuery_ends hanswered
    exact ((proceeds_queries h hmode hscript hend).reaches ⟨⟨rfl, rfl, rfl⟩, rfl, rfl, rfl, rfl, rfl, rfl⟩).trans
      fun t ht => .here ⟨ok, more, ht⟩
  | flushEstimate =>
    exact (reaches_flushed h hfifo hmode (hbaud (by simp [hmode]))).trans fun t ⟨ok, ht⟩ => .here ⟨ok, _, ht⟩
  | estimate =>
    exact ((proceeds_estimate h hfifo hmode (hbaud (by simp [hmode])) rfl).reaches
      ⟨⟨rfl, rfl, rfl⟩, rfl, rfl, rfl, rfl, rfl, rfl⟩).trans fun t ht => .here ⟨true, _, ht⟩

/-- DEASSERT, the second settle wait and the outcome row (rules R210 to R213). -/
theorem reaches_outcome {ok : Bool} (h : s.phase = .deassert ok) :
    Reaches s fun t => s.SameTick t ∧ t.phase = .timeout (if ok then .sent else .failed) ∧ t.chanRx = s.chanRx ∧
      t.rxFifo = s.rxFifo ∧ t.txFifo = (if ok then s.txFifo.tail else s.txFifo) ∧ t.chanTx = s.chanTx := by
  have hlowered : Reaches s (s.Attempting (if ok then .commit else .fail) s.chanTx s.doneAnswers) :=
    (proceeds_lowered h).reaches ⟨⟨rfl, rfl, rfl⟩, rfl, rfl, rfl, rfl, rfl, rfl⟩
  refine hlowered.trans fun t ht => ?_
  cases ok with
  | true =>
    exact .after ((step_sending_at ht.phase rfl rfl).trans (exec_txCommit ht.phase))
      (.here ⟨⟨ht.commands, ht.ownAddr, ht.params⟩, rfl, ht.chanRx, ht.rxFifo, congrArg List.tail ht.txFifo, ht.chanTx⟩)
  | false =>
    exact .after ((step_sending_at ht.phase rfl rfl).trans (exec_txFail ht.phase))
      (.here ⟨⟨ht.commands, ht.ownAddr, ht.params⟩, rfl, ht.chanRx, ht.rxFifo, ht.txFifo, ht.chanTx⟩)

/-- A whole attempt at sending the head frame. Only a write that the channel took can succeed. -/
theorem reaches_attempted (h : s.phase = .assertDe) (hfifo : s.txFifo = f :: fs)
    (hbaud : baudUsable s.params.completion s.params.baud = true) (hquery : s.QueryAnswered) :
    Reaches s fun t => ∃ r, s.Transmitted r t := by
  have hwaited : Reaches s fun t => ∃ a ok das, (ok = true → a = .ok) ∧
      s.Attempting (.deassert ok) (s.chanTx ++ bytesOnWire a f) das t := by
    refine (reaches_written h hfifo).trans fun t ⟨a, ht⟩ => ?_
    cases a with
    | fail k => exact .here ⟨.fail k, false, _, nofun, ht⟩
    | ok =>
      have htquery : t.QueryAnswered := by
        rw [State.QueryAnswered, ht.params, ht.doneAnswers]
        exact hquery
      refine (reaches_waited ht.phase (ht.txFifo.trans hfifo) (ht.params ▸ hbaud) htquery).trans
        fun u ⟨ok, das, hu⟩ => ?_
      rw [ht.chanTx] at hu
      exact .here ⟨.ok, ok, das, fun _ => rfl, ht.trans hu⟩
  refine hwaited.trans fun t ⟨a, ok, das, hok, ht⟩ => (reaches_outcome ht.phase).trans
    fun u ⟨hsame, hphase, hchanRx, hrxFifo, htxFifo, hchanTx⟩ => .here ⟨_, {
      toSameTick := ht.toSameTick.trans hsame
      phase := hphase
      chanRx := hchanRx.trans ht.chanRx
      rxFifo := hrxFifo.trans ht.rxFifo
      effect := ?_ }⟩
  rw [ht.txFifo] at htxFifo
  rw [ht.chanTx] at hchanTx
  cases ok with
  | true =>
    obtain rfl := hok rfl
    exact ⟨f, by rw [htxFifo, hfifo]; rfl, hchanTx⟩
  | false =>
    cases a with
    | ok => exact ⟨htxFifo, f, fs, f.length, hfifo, by rw [List.take_length]; exact hchanTx⟩
    | fail k => exact ⟨htxFifo, f, fs, k, hfifo, hchanTx⟩

end Attempt

/-- The transmit step, from the gate at the end of the drain, which leaves it at once or begins an attempt. -/
theorem reaches_transmitted {s u : State} (hgate : step s = exec .txGate u) (hphase : u.phase = .drain)
    (hbaud : baudUsable u.params.completion u.params.baud = true) (hquery : u.QueryAnswered) :
    Reaches s fun t => ∃ r, u.Transmitted r t := by
  by_cases hempty : u.txFifo = []
  · exact .after (hgate.trans (exec_txGate_empty hphase hempty))
      (.here ⟨.nothing, ⟨rfl, rfl, rfl⟩, rfl, rfl, rfl, rfl, rfl⟩)
  rw [exec_txGate_waiting hphase hempty] at hgate
  split at hgate
  case isFalse => exact .after hgate (.here ⟨.nothing, ⟨rfl, rfl, rfl⟩, rfl, rfl, rfl, rfl, rfl⟩)
  case isTrue =>
    obtain ⟨f, fs, hfifo⟩ := List.exists_cons_of_ne_nil hempty
    refine .after hgate ((reaches_attempted (s := toPhase .assertDe (readClock u)) rfl hfifo hbaud hquery).trans
      fun t ⟨r, ht⟩ => .here ⟨r, ?_⟩)
    exact ⟨⟨ht.commands, ht.ownAddr, ht.params⟩, ht.phase, ht.chanRx, ht.rxFifo, ht.effect⟩

/-! ## The timeout check (rule R185) and the whole TICK -/

/-- A TICK whose transmit step ended in `s` with the result `r` has answered in `t`, and no reception is left that is older
than the packet timeout. -/
structure State.Answered (s : State) (r : TxResult) (t : State) : Prop extends s.SameTick t where
  phase : t.phase = .idle
  chanRx : t.chanRx = s.chanRx
  rxFifo : t.rxFifo = s.rxFifo
  txFifo : t.txFifo = s.txFifo
  chanTx : t.chanTx = s.chanTx
  result : t.result = .tick r
  young : ∀ x, t.rx = some x → t.clock - x.start ≤ t.params.packetTimeoutMs

/-- The check discards a reception that is too old, and one that stays has passed it. -/
theorem reaches_answered {s : State} {r : TxResult} (hinv : s.Inv) (hphase : s.phase = .timeout r) :
    Reaches s (s.Answered r) := by
  have hstep : step s = rxTimeoutCheck s fun s' => .next (respond (.tick r) (toPhase .idle s')) :=
    (step_phase (by simp [hphase]) (by simp [hphase]) (by rw [hphase]; rfl)).trans (exec_rxTimeout hphase)
  by_cases hidle : s.rxState = .idle
  · have hnone : s.rx = none := by simpa [hidle] using hinv.reception
    exact .after (hstep.trans (rxTimeoutCheck_idle _ hidle))
      (.here ⟨⟨rfl, rfl, rfl⟩, rfl, rfl, rfl, rfl, rfl, rfl, by simp [hnone]⟩)
  obtain ⟨x, hx⟩ := Option.isSome_iff_exists.mp (hinv.reception.mpr hidle)
  rw [rxTimeoutCheck_receiving _ hidle hx] at hstep
  split at hstep
  case isTrue => exact .after hstep (.here ⟨⟨rfl, rfl, rfl⟩, rfl, rfl, rfl, rfl, rfl, rfl, by simp⟩)
  case isFalse hyoung =>
    refine .after hstep (.here ⟨⟨rfl, rfl, rfl⟩, rfl, rfl, rfl, rfl, rfl, rfl, fun y hy => ?_⟩)
    obtain rfl : x = y := Option.some.inj (hx.symm.trans hy)
    exact Nat.not_lt.mp (mt decide_eq_true hyoung)

/-- Settles O56: the drain, the transmit step and the timeout check one after the other, each reached from where the one
before it ends; the output is low because the invariant still holds. -/
theorem tickRunsToItsEnd : Obligations.TickRunsToItsEnd := by
  intro s c cs bytes later hinv hidle hbuilt hcommands hcode hchan hquery
  have hbegin : step s = .next { s with commands := cs, phase := .drain } := by
    rw [step_command hidle hcommands, decodeCommand_tick hcode]
    exact tickBeginsWithTheDrain _ hidle hbuilt
  obtain ⟨left, hleft, hend⟩ : ∃ left, s.chanRx = bytes.map .byte ++ left ∧
      ((left = [] ∧ later = []) ∨ left = .noByte :: later ∨ left = .silence :: later) := by
    rcases hchan with ⟨hchan, rfl⟩ | hchan | hchan
    · exact ⟨[], by simpa using hchan, .inl ⟨rfl, rfl⟩⟩
    · exact ⟨_, hchan, .inr (.inr rfl)⟩
    · exact ⟨_, hchan, .inr (.inl rfl)⟩
  have hinv₀ := everyStepKeepsTheInvariant s _ hinv hbegin
  refine Reaches.after hbegin (((reaches_drained hinv₀ rfl hleft).inv hinv₀).trans fun t ⟨htinv, ht⟩ => ?_)
  have htquery : t.QueryAnswered := by
    rw [State.QueryAnswered, ht.params, ht.doneAnswers]
    exact hquery
  have htgate : step t = exec .txGate { t with chanRx := later } := step_gate ht.phase (by
    rw [ht.chanRx]
    exact hend.imp_left fun ⟨hnone, hlater⟩ => ⟨hnone, hlater.trans hnone.symm⟩)
  refine ((reaches_transmitted htgate ht.phase htinv.baud htquery).inv htinv).trans fun u ⟨huinv, r, hu⟩ => ?_
  refine ((reaches_answered huinv hu.phase).inv huinv).trans fun v ⟨hvinv, hv⟩ => .here ?_
  obtain ⟨hcs, haddr, hparams⟩ := ht.toSameTick.trans
    (State.SameTick.trans ⟨hu.commands, hu.ownAddr, hu.params⟩ hv.toSameTick)
  refine ⟨hv.phase, ?de, hcs, hv.chanRx.trans hu.chanRx, haddr, hparams, ⟨r, hv.result, ?effect⟩, hv.young,
    ?rxFifo⟩
  case de => rw [hvinv.direction, hv.phase]; rfl
  case rxFifo => rw [hv.rxFifo, hu.rxFifo]; exact ht.rxFifo
  case effect =>
    have heffect : TransmitEffect s.txFifo s.chanTx v.txFifo v.chanTx r := by
      rw [hv.txFifo, hv.chanTx, ← ht.txFifo, ← ht.chanTx]
      exact hu.effect
    exact ⟨by rintro rfl; exact heffect, by rintro rfl; exact heffect, by rintro rfl; exact heffect⟩

end Sys2Proof.Machine
end

section
/-! PROOFS. The statements of 60_exceptions.md: the clock never runs backwards, and the trace never feeds back. For the
second, one rule per guard comes first, then the rows, then what a step fetches. -/

namespace Sys2Proof.Machine

/-! ## The clock (rule R292) -/

/-- Of the host operations only CONSTRUCT takes a clock reading; the others leave the clock alone. -/
theorem host_clock_le {s t : State} {c : Command} (he : exec (decodeCommand c) s = .next t) : s.clock ≤ t.clock := by
  rcases host_effect he with
    ⟨-, ht | ⟨-, -, -, -, -, -, -, -, hclock⟩⟩ | ht | ⟨-, ht, -⟩ | ⟨-, m, -, ht⟩ | ⟨-, -, ⟨-, ht⟩ | ⟨-, -, ht⟩⟩
  case inl.inr => exact hclock
  all_goals exact (congrArg State.clock ht).ge

/-- Settles O52: a passive machine keeps its clock, and no unit of work of the other three kinds sets it back. -/
theorem clockNeverRunsBackwards : Obligations.ClockNeverRunsBackwards := by
  intro s t h
  rcases step_next_cases h with ⟨-, -, rfl⟩ | ⟨c, rest, -, -, he⟩ | ⟨b, rest, -, -, he⟩ | ⟨i, rest, -, hi, -, he⟩
  · exact le_rfl
  · exact host_clock_le (s := { s with commands := rest }) he
  · obtain ⟨-, -, -, -, hclock⟩ := wire_effect (s := { s with chanRx := rest }) he
    exact hclock
  · obtain ⟨-, -, -, -, -, hclock, -⟩ := phase_effect hi he
    exact hclock

/-! ## The same machine on another trace port -/

/-- The same machine with another trace port and other things that have left the block. -/
def State.withTrace (s : State) (port : TracePort) (out : List Output) : State :=
  { s with params := { s.params with trace := port }, out := out }

theorem State.sameButTrace.exists_withTrace {s s' : State} (h : s.sameButTrace s') :
    ∃ port out, s' = s.withTrace port out := ⟨_, _, h⟩

section TraceBlind

variable {s : State} {port : TracePort} {out : List Output}

@[simp] theorem withTrace_phase : (s.withTrace port out).phase = s.phase := rfl
@[simp] theorem withTrace_rxState : (s.withTrace port out).rxState = s.rxState := rfl
@[simp] theorem withTrace_rx : (s.withTrace port out).rx = s.rx := rfl
@[simp] theorem withTrace_rxFifo : (s.withTrace port out).rxFifo = s.rxFifo := rfl
@[simp] theorem withTrace_txFifo : (s.withTrace port out).txFifo = s.txFifo := rfl
@[simp] theorem withTrace_rxqDepth : (s.withTrace port out).params.rxqDepth = s.params.rxqDepth := rfl
@[simp] theorem withTrace_txqDepth : (s.withTrace port out).params.txqDepth = s.params.txqDepth := rfl
@[simp] theorem withTrace_commands : (s.withTrace port out).commands = s.commands := rfl
@[simp] theorem withTrace_chanRx : (s.withTrace port out).chanRx = s.chanRx := rfl
@[simp] theorem withTrace_nextWrite : (s.withTrace port out).nextWrite = s.nextWrite := rfl
@[simp] theorem withTrace_nextDone : (s.withTrace port out).nextDone = s.nextDone := rfl
@[simp] theorem withTrace_nextFlush : (s.withTrace port out).nextFlush = s.nextFlush := rfl

/-! ## The guards read no trace -/

section Guards

variable {rel : State → State → Prop} {a a' : Answer}

theorem hostOp_traceBlind (h : outcomesAgree rel a a') :
    outcomesAgree rel (hostOp s a) (hostOp (s.withTrace port out) a') :=
  ite_agree Iff.rfl (fun _ => ite_agree Iff.rfl (fun _ => h) fun _ => rfl) fun _ => rfl

theorem portOp_traceBlind (h : outcomesAgree rel a a') :
    outcomesAgree rel (portOp s a) (portOp (s.withTrace port out) a') :=
  ite_agree Iff.rfl (fun _ => h) fun _ => rfl

theorem inPhase_traceBlind {p : Phase} (h : outcomesAgree rel a a') :
    outcomesAgree rel (inPhase s p a) (inPhase (s.withTrace port out) p a') :=
  ite_agree Iff.rfl (fun _ => h) fun _ => rfl

theorem atIdle_traceBlind {c : Bool} (h : outcomesAgree rel a a') :
    outcomesAgree rel (atIdle s c a) (atIdle (s.withTrace port out) c a') :=
  ite_agree Iff.rfl (fun _ => ite_agree Iff.rfl (fun _ => h) fun _ => rfl) fun _ => rfl

theorem atRow_traceBlind {st : RxState} {c : Reception → Bool} {k k' : Reception → Answer}
    (h : ∀ r, outcomesAgree rel (k r) (k' r)) :
    outcomesAgree rel (atRow s st c k) (atRow (s.withTrace port out) st c k') := by
  refine ite_agree Iff.rfl (fun _ => ?_) fun _ => rfl
  rw [withTrace_rx]
  cases s.rx with
  | none => rfl
  | some r => exact ite_agree Iff.rfl (fun _ => h r) fun _ => rfl

end Guards

/-! ## The rows of the receiver -/

theorem execStxEtx_traceBlind :
    outcomesAgree State.sameButTrace (execStxEtx s) (execStxEtx (s.withTrace port out)) :=
  atRow_traceBlind fun _ => ite_agree Iff.rfl (fun _ => rfl) fun _ => rfl

theorem deliver_traceBlind (r : Reception) : (deliver r s).sameButTrace (deliver r (s.withTrace port out)) := by
  unfold deliver
  rw [withTrace_rxqDepth, withTrace_rxFifo]
  split <;> rfl

theorem execCrcOkEot_traceBlind :
    outcomesAgree State.sameButTrace (execCrcOkEot s) (execCrcOkEot (s.withTrace port out)) :=
  atRow_traceBlind fun r => deliver_traceBlind (s := stamp s) r

/-- Every byte in every receiver state; what the dispatch reads is the reception, the state and the address. -/
theorem rxByte_traceBlind (b : Byte) :
    outcomesAgree State.sameButTrace (rxByte b s) (rxByte b (s.withTrace port out)) := by
  unfold rxByte
  rw [withTrace_rxState]
  cases s.rxState with
  | idle =>
    refine ite_agree Iff.rfl (fun _ => atIdle_traceBlind rfl) fun _ => ?_
    exact ite_agree Iff.rfl (fun _ => atIdle_traceBlind rfl) fun _ => atIdle_traceBlind rfl
  | destAddressReceived | srcAddressReceived => exact atRow_traceBlind fun _ => rfl
  | sohReceived | transactionIdReceived | messageLenReceived | etxReceived =>
    exact ite_agree Iff.rfl (fun _ => atRow_traceBlind fun _ => rfl) fun _ => atRow_traceBlind fun _ => rfl
  | stxReceived =>
    refine ite_agree Iff.rfl (fun _ => ?_) fun _ => ?_
    · exact ite_agree Iff.rfl (fun _ => atRow_traceBlind fun _ => rfl) fun _ => atRow_traceBlind fun _ => rfl
    · exact ite_agree Iff.rfl (fun _ => execStxEtx_traceBlind) fun _ => atRow_traceBlind fun _ => rfl
  | crcOk => exact ite_agree Iff.rfl (fun _ => execCrcOkEot_traceBlind) fun _ => atRow_traceBlind fun _ => rfl

theorem execRxTimeout_traceBlind :
    outcomesAgree State.sameButTrace (execRxTimeout s) (execRxTimeout (s.withTrace port out)) := by
  unfold execRxTimeout
  rw [withTrace_phase]
  split
  case h_2 => rfl
  case h_1 =>
    refine ite_agree Iff.rfl (fun _ => rfl) fun _ => ?_
    rw [withTrace_rx]
    cases s.rx with
    | none => rfl
    | some r => exact ite_agree Iff.rfl (fun _ => rfl) fun _ => rfl

/-! ## The host operations -/

theorem execConstruct_traceBlind (addr : Byte) (settle : Duration) (baud : Int) (completion : Completion) :
    outcomesAgree State.sameButTrace (execConstruct addr settle baud completion s)
      (execConstruct addr settle baud completion (s.withTrace port out)) :=
  portOp_traceBlind <| ite_agree Iff.rfl (fun _ => rfl) fun _ => ite_agree Iff.rfl (fun _ => rfl) fun _ =>
    ite_agree Iff.rfl (fun _ => rfl) fun _ => rfl

theorem enqueueFrame_traceBlind (dest : Byte) (payload : List Byte) (tid : Byte) :
    (enqueueFrame dest payload tid s).sameButTrace (enqueueFrame dest payload tid (s.withTrace port out)) := by
  unfold enqueueFrame
  rw [withTrace_txqDepth, withTrace_txFifo]
  split
  · rfl
  · split <;> rfl

theorem execRead_traceBlind : outcomesAgree State.sameButTrace (execRead s) (execRead (s.withTrace port out)) := by
  refine hostOp_traceBlind ?_
  rw [withTrace_rxFifo]
  split <;> rfl

theorem execSetAddr_traceBlind (a : Byte) :
    outcomesAgree State.sameButTrace (execSetAddr a s) (execSetAddr a (s.withTrace port out)) :=
  hostOp_traceBlind <| ite_agree Iff.rfl (fun _ => rfl) fun _ => rfl

theorem execReply_traceBlind (m : Message) (payload : List Byte) (override : Bool) :
    outcomesAgree State.sameButTrace (execReply m payload override s)
      (execReply m payload override (s.withTrace port out)) :=
  hostOp_traceBlind <| ite_agree Iff.rfl (fun _ => rfl) fun _ => enqueueFrame_traceBlind m.src payload m.tid

/-! ## The rows of the sequencer -/

theorem execTxGate_traceBlind : outcomesAgree State.sameButTrace (execTxGate s) (execTxGate (s.withTrace port out)) :=
  inPhase_traceBlind <| ite_agree Iff.rfl (fun _ => rfl) fun _ => ite_agree Iff.rfl (fun _ => rfl) fun _ => rfl

theorem execTxWrite_traceBlind :
    outcomesAgree State.sameButTrace (execTxWrite s) (execTxWrite (s.withTrace port out)) := by
  refine inPhase_traceBlind ?_
  rw [withTrace_nextWrite]
  split <;> rfl

theorem execTxCompleteExact_traceBlind :
    outcomesAgree State.sameButTrace (execTxCompleteExact s) (execTxCompleteExact (s.withTrace port out)) := by
  refine inPhase_traceBlind <| ite_agree Iff.rfl (fun _ => ?_) fun _ => rfl
  rw [withTrace_nextDone]
  split <;> rfl

theorem execTxCompleteFlushEstimate_traceBlind :
    outcomesAgree State.sameButTrace (execTxCompleteFlushEstimate s)
      (execTxCompleteFlushEstimate (s.withTrace port out)) := by
  refine inPhase_traceBlind <| ite_agree Iff.rfl (fun _ => ?_) fun _ => rfl
  rw [withTrace_nextFlush]
  split
  · rfl
  · exact ite_agree Iff.rfl (fun _ => rfl) fun _ => rfl

theorem execTxCompleteEstimate_traceBlind :
    outcomesAgree State.sameButTrace (execTxCompleteEstimate s) (execTxCompleteEstimate (s.withTrace port out)) :=
  inPhase_traceBlind <| ite_agree Iff.rfl (fun _ => ite_agree Iff.rfl (fun _ => rfl) fun _ => rfl) fun _ => rfl

theorem execTxDeassert_traceBlind :
    outcomesAgree State.sameButTrace (execTxDeassert s) (execTxDeassert (s.withTrace port out)) := by
  unfold execTxDeassert
  rw [withTrace_phase]
  split <;> rfl

theorem execTxSettle2_traceBlind :
    outcomesAgree State.sameButTrace (execTxSettle2 s) (execTxSettle2 (s.withTrace port out)) := by
  unfold execTxSettle2
  rw [withTrace_phase]
  split <;> rfl

/-! ## Every row, and every step -/

theorem exec_traceBlind (i : Instr) :
    outcomesAgree State.sameButTrace (exec i s) (exec i (s.withTrace port out)) := by
  cases i with
  | idleNul | idleSoh | idleOther => exact atIdle_traceBlind rfl
  | sohDstAccept | sohDstReject | destSrc | srcTid | tidLenOk | tidLenZero | lenStx | lenOther | stxEncHigh | stxEncLow
  | stxOther | etxCrcMatch | etxCrcMismatch | crcOkOther | crcInit | crcFold | crcCheck =>
    exact atRow_traceBlind fun _ => rfl
  | stxEtx => exact execStxEtx_traceBlind
  | crcOkEot => exact execCrcOkEot_traceBlind
  | rxTimeout => exact execRxTimeout_traceBlind
  | symNul | symSoh | symStx | symEtx | symEot | symLf | symEnc => exact rxByte_traceBlind _
  | construct addr settle baud completion => exact execConstruct_traceBlind addr settle baud completion
  | enqueue dest payload tid => exact hostOp_traceBlind (enqueueFrame_traceBlind dest payload tid)
  | read => exact execRead_traceBlind
  | setAddr a => exact execSetAddr_traceBlind a
  | reply m payload override => exact execReply_traceBlind m payload override
  | tick | pending | available | getAddr | isBroadcast => exact hostOp_traceBlind rfl
  | unassignedAB | unassignedCF => exact portOp_traceBlind rfl
  | txGate => exact execTxGate_traceBlind
  | txWrite => exact execTxWrite_traceBlind
  | txCompleteExact => exact execTxCompleteExact_traceBlind
  | txCompleteFlushEstimate => exact execTxCompleteFlushEstimate_traceBlind
  | txCompleteEstimate => exact execTxCompleteEstimate_traceBlind
  | txDeassert => exact execTxDeassert_traceBlind
  | txSettle2 => exact execTxSettle2_traceBlind
  | txAssert | txSettle1 | txCommit | txFail => exact inPhase_traceBlind rfl
  | symEncHigh | symEncLow | isValidNodeAddress | isValidSlaveAddress | valid | decPair | encodeFrame => rfl

/-- The same unit of work, to be run on another trace port. -/
def Fetched.withTrace (port : TracePort) (out : List Output) : Fetched → Fetched
  | .work x w s => .work x w (s.withTrace port out)
  | .passive => .passive
  | .refuse r => .refuse r

theorem fetchCommand_withTrace : fetchCommand (s.withTrace port out) = (fetchCommand s).withTrace port out := by
  unfold fetchCommand
  rw [withTrace_commands]
  split <;> rfl

theorem dropSilence_withTrace : dropSilence (s.withTrace port out) = (dropSilence s).withTrace port out := by
  unfold dropSilence
  rw [withTrace_chanRx]
  split <;> rfl

theorem fetchWire_withTrace : fetchWire (s.withTrace port out) = (fetchWire s).withTrace port out := by
  unfold fetchWire chanAvail
  rw [withTrace_chanRx, dropSilence_withTrace]
  split
  · rfl
  · split <;> rfl

/-- Both machines take the same unit of work. -/
theorem fetch_withTrace : fetch (s.withTrace port out) = (fetch s).withTrace port out := by
  unfold fetch
  rw [withTrace_phase]
  cases s.phase with
  | idle => exact fetchCommand_withTrace
  | drain => exact fetchWire_withTrace
  | _ => rfl

theorem step_traceBlind : outcomesAgree State.sameButTrace (step s) (step (s.withTrace port out)) := by
  unfold step
  rw [fetch_withTrace]
  cases fetch s with
  | passive => rfl
  | refuse r => rfl
  | work x w u =>
    dsimp only [Fetched.withTrace]
    cases decode x w with
    | instr i => exact exec_traceBlind i
    | reject r => rfl

end TraceBlind

/-- Settles O53: both machines fetch the same unit of work, and no row reads the trace port but to choose what leaves. -/
theorem traceNeverFeedsBack : Obligations.TraceNeverFeedsBack := by
  intro s s' h
  obtain ⟨port, out, rfl⟩ := h.exists_withTrace
  exact step_traceBlind

end Sys2Proof.Machine
end

section
/-! PROOFS. The statement of 70_reset_and_hazards.md: the completion wait of the EXACT mode, while the channel keeps
answering false (rules R207, R323). -/

namespace Sys2Proof.Machine

/-- Queries that answer false stay in the wait and change only the list of answers and what leaves the block: by induction
on their number. -/
theorem proceeds_unanswered {n : Nat} {s : State} {more : List DoneAnswer} (h : s.phase = .complete)
    (hmode : s.params.completion = .exact) (hscript : s.doneAnswers = List.replicate n .notYet ++ more) :
    Proceeds n 0 s { s with out := s.out ++ List.replicate n .askDone, doneAnswers := more } := by
  induction n generalizing s with
  | zero =>
    obtain rfl : s.doneAnswers = more := hscript
    simpa using Proceeds.refl s
  | succ n ih =>
    have hquery := proceeds_query h hmode hscript
    rw [hscript] at hquery
    have hrest := hquery.trans (ih rfl hmode rfl)
    rw [Nat.add_comm 1] at hrest
    simpa [phaseAfterQuery, ← h, List.replicate_succ] using hrest

/-- Settles O57: `n` false answers are `n` steps within the wait, and none of them lowers the output, answers the host or
removes a frame. -/
theorem unansweredCompletionHangsTheTick : Obligations.UnansweredCompletionHangsTheTick := by
  intro n s more h hmode hde hscript
  obtain ⟨now, script, free, -, hrun⟩ := proceeds_unanswered h hmode hscript s.clock s.advances s.freeIndex
  exact ⟨_, hrun, h, hde, rfl, rfl⟩

end Sys2Proof.Machine
end
